-- ==== Sys2Proof/Word.lean ====
section
/-! DEFINITION. The two word types of the LX612 and the names of its fixed numbers of things.
Times, bytes and car words are what the manual adds, masks or sends as bits; everything else is a
number, a name or a list. -/

namespace Sys2Proof

/-- A byte on a station port (R177, R181). -/
abbrev Byte := BitVec 8

/-- A race-clock value in tu of 100 µs; differences are taken modulo 2^32 (Section 6.3 of the scope). -/
abbrev Time := BitVec 32

/-- Car numbers 0–11 (R20). -/
abbrev CarNo := Fin 12

/-- Handset numbers 0–15; 0–7 are wired and 8–15 are radio (R42). -/
abbrev HandsetNo := Fin 16

/-- Wired scanner channels 0–7; channel n carries handset n (R42). -/
abbrev Channel := Fin 8

/-- Switch numbers 0–23 (R3). -/
abbrev SwitchNo := Fin 24

/-- Loop node addresses 0–39; 0–23 are switch nodes and 24–39 gate nodes (R132). -/
abbrev NodeNo := Fin 40

end Sys2Proof
end

