-- ==== Sys2Proof/Config.lean ====
section
/-! DEFINITION. What the manual leaves open and the model does not choose: constants without a body,
so that every claim about the model holds whatever they are. -/

namespace Sys2Proof

/-- How a port's attention line is driven when released (R184). -/
inductive Drive where
  | pushPull | openDrain
  deriving DecidableEq, Repr, Inhabited

/-- The strap levels sampled at a power-on reset: the LOAD strap and one attention strap a port
(R173, R184). -/
structure Straps where
  load : Bool
  base : Drive
  console : Drive
  radio : Drive
  deriving DecidableEq, Repr, Inhabited

/-- Straps low: no power-on load, push-pull attention drive. DESIGN CHOICE (log entry 1). -/
def Straps.low : Straps := { load := false, base := .pushPull, console := .pushPull, radio := .pushPull }

/-- The reply fields that hold a flag (set or clear) and to which R181 gives no polarity: they are not among
the fields it calls yes/no fields, and no rule lists their values in an order. -/
inductive FlagField where
  | mapValid | fresh
  deriving DecidableEq, Repr

/-- Whether the set value of such a field is sent as 01h; if not, it is sent as 00h and the
other value as 01h. UNVERIFIED: R181 can be read either way, so the polarity is free (log entry 2). -/
opaque Config.setIsOne : FlagField → Bool

/-- Which of several expiries that fall due together is taken first while no command waits: the manual
says either may be (R73, R106, R117). A free value for each choice (log entry 4). -/
opaque Config.duePick : Nat → Nat

/-- How many memory writes the second stage of a save takes beyond the first one: R199 gives the order
of the writes and not their number. A free value (log entry 6). -/
opaque Config.imageWrites : Nat

/-- How many parts of the image, in R198's order, lie whole in the memory after a confirmed write of the
second stage of a save that is not its last, counted from 0: R199 gives the order and not where one write
ends. A free value for each write (log entry 11). -/
opaque Config.imageProgress : Nat → Nat

/-- The strap levels that the reset of a RESTART samples: the board may have changed them since the last
reset (R173, R184). A free value for each such reset (log entry 16). -/
opaque Config.restartStraps : Nat → Straps

end Sys2Proof
end

