-- ==== Sys2Proof/Syntax.lean ====
section
/-! DEFINITION. The commands of the LX612: one constructor for each row of spec/opcode_table.json, with
what the row carries. A request row carries the number of the port on which the request frame has ended;
its code, length and body are the port's request in progress, which State holds (R176, R178). -/

namespace Sys2Proof

/-- The three station ports, named by role: SP0 base, SP1 console, SP2 radio (R175). -/
inductive Port where
  | base | console | radio
  deriving DecidableEq, Repr

/-- Sensor kinds, in the order of R191's code list. -/
inductive SensorKind where
  | entry | exitStraight | exitThrown | gate
  deriving DecidableEq, Repr

/-- The position field of a node reply as received: one of the three positions of R135, or a code that
is none of them (R136 makes the reply malformed). -/
inductive ReportedPosition where
  | straight | thrown | moving | invalid
  deriving DecidableEq, Repr

/-- One detection record of a node reply (R135). Ids 12–15 name no car; the age is in tu. -/
structure Detection where
  carId : Nat
  kind : SensorKind
  age : Nat
  deriving DecidableEq, Repr

/-- A node reply as SLC receives it (R135). `sound` says that it passes its check sequence and is not cut
short (R136). -/
structure NodeReply where
  sound : Bool
  address : Nat
  position : Option ReportedPosition
  detections : List Detection
  dropped : Bool
  deriving DecidableEq, Repr

/-- The commands: what the masters, the track, the handsets, the settings memory and the part's own
timers can do to it, one constructor a row of the table, in the table's order. -/
inductive Instr where
  | chipSelectFall (p : Port)
  | chipSelectRise (p : Port)
  | unknownRequest (p : Port)
  | identify (p : Port)
  | status (p : Port)
  | readEvents (p : Port)
  | setEventMask (p : Port)
  | clearFlags (p : Port)
  | clearQueue (p : Port)
  | start (p : Port)
  | caution (p : Port)
  | clearCaution (p : Port)
  | halt (p : Port)
  | resume (p : Port)
  | setup (p : Port)
  | railFault (p : Port)
  | railClear (p : Port)
  | writeSegment (p : Port)
  | readSegment (p : Port)
  | writeSwitch (p : Port)
  | readSwitch (p : Port)
  | writeGate (p : Port)
  | readGate (p : Port)
  | setPairingGate (p : Port)
  | validateMap (p : Port)
  | writeProfile (p : Port)
  | readCar (p : Port)
  | writeCalibration (p : Port)
  | setScan (p : Port)
  | readRaw (p : Port)
  | readHandset (p : Port)
  | postSamples (p : Port)
  | bind (p : Port)
  | unbind (p : Port)
  | readPairing (p : Port)
  | lockSwitch (p : Port)
  | unlockSwitch (p : Port)
  | clearSwitch (p : Port)
  | readNode (p : Port)
  | fetchFrame (p : Port)
  | setCycleTrim (p : Port)
  | setLimits (p : Port)
  | saveImage (p : Port)
  | loadImage (p : Port)
  | restart (p : Port)
  | resetPinAssert
  | powerOnReset (straps : Straps)
  | intervalTimerExpiry
  | roundResult (ch : Channel) (raw : BitVec 12) (pressed : Bool)
  | holdEnd (h : HandsetNo)
  | lostTime (h : HandsetNo)
  | holdTimerExpiry (h : HandsetNo)
  | seekTimerExpiry (h : HandsetNo)
  | intentExpiry (c : CarNo)
  | ageExpiry (c : CarNo)
  | staleExpiry (j : SwitchNo) (c : CarNo)
  | deadlineExpiry (j : SwitchNo)
  | cycleEnd
  | pollSent
  | replyReceived (r : NodeReply)
  | replyTimeout
  | saveWriteConfirm
  | saveWriteTimeout
  | loadComplete
  | masterSendsByte (p : Port) (b : Byte)
  | setRaceStateBadTarget (p : Port)
  deriving DecidableEq, Repr

end Sys2Proof
end

