-- ==== Sys2Proof/WellFormed.lean ====
section
/-! DEFINITION. Which commands the world around the part can send. The types already bound ports, car,
handset, switch and node numbers, raw values and bytes; two checks are left. -/

namespace Sys2Proof

/-- A car id is a number of four bits (R135). -/
def Detection.wellFormed (d : Detection) : Bool := d.carId < 16

/-- Hold ends and LOST times are expiries of radio handsets, 8–15 (R42, R51); the records of a reply
hold car ids 0–15 (R135). Every other command is well formed as it stands. -/
def Instr.wellFormed (i : Instr) : Bool :=
  match i with
  | .holdEnd h => 8 ≤ h.val
  | .lostTime h => 8 ≤ h.val
  | .replyReceived r => r.detections.all Detection.wellFormed
  | .chipSelectFall _ | .chipSelectRise _ | .unknownRequest _ | .identify _ | .status _ | .readEvents _
  | .setEventMask _ | .clearFlags _ | .clearQueue _ | .start _ | .caution _ | .clearCaution _ | .halt _
  | .resume _ | .setup _ | .railFault _ | .railClear _ | .writeSegment _ | .readSegment _ | .writeSwitch _
  | .readSwitch _ | .writeGate _ | .readGate _ | .setPairingGate _ | .validateMap _ | .writeProfile _
  | .readCar _ | .writeCalibration _ | .setScan _ | .readRaw _ | .readHandset _ | .postSamples _ | .bind _
  | .unbind _ | .readPairing _ | .lockSwitch _ | .unlockSwitch _ | .clearSwitch _ | .readNode _
  | .fetchFrame _ | .setCycleTrim _ | .setLimits _ | .saveImage _ | .loadImage _ | .restart _
  | .resetPinAssert | .powerOnReset _ | .intervalTimerExpiry | .roundResult _ _ _ | .holdTimerExpiry _
  | .seekTimerExpiry _ | .intentExpiry _ | .ageExpiry _ | .staleExpiry _ _ | .deadlineExpiry _ | .cycleEnd
  | .pollSent | .replyTimeout | .saveWriteConfirm | .saveWriteTimeout | .loadComplete | .masterSendsByte _ _
  | .setRaceStateBadTarget _ => true

end Sys2Proof
end

