-- ==== Sys2Proof/Decode.lean ====
section
/-! DEFINITION. spec/opcode_table.json gives no row any bits (its rows are operations and events of a
block, with empty field lists), so no word spells a command. -/

namespace Sys2Proof

/-- No row of the table has bits, so no word of any width stands for a command. DESIGN CHOICE for how commands
come to run (log entry 10). -/
def decodeTableWord (_nbits _w : Nat) : Option Instr := none

end Sys2Proof
end

