-- ==== Sys2Proof/Machine/State.lean ====
section
/-! DEFINITION. The state of the LX612, block by block as the manual names it, and its value right after
power-on reset. Plain data throughout: tables of fixed size are vectors, queues and lists are lists. -/

namespace Sys2Proof.Machine

/-! ### Station ports (Chapter 10) -/

/-- A port's role (R175). -/
inductive Role where
  | base | console | radio
  deriving DecidableEq, Repr

/-- A port's phase (R176). -/
inductive Phase where
  | idle | receiving | taking | replying | done
  deriving DecidableEq, Repr

/-- The request in progress: its code, its declared body length once received, and the body bytes
received so far (R176). -/
structure Frame where
  code : Byte
  length : Option Byte
  body : List Byte
  deriving DecidableEq, Repr

/-- The reply in progress: the composed reply frame, and how many of its bytes have been sent (R176). -/
structure ReplyOut where
  bytes : List Byte
  sent : Nat
  deriving DecidableEq, Repr

/-- One station port (R176). `filler` counts the filler bytes clocked in TAKING since the request frame ended,
0–16 (R178). `miso` is the byte the part sent against the last byte the master clocked: the port's MISO pin
(R177, R178). -/
structure PortState where
  phase : Phase
  request : Option Frame
  reply : Option ReplyOut
  aborted : Nat
  cut : Nat
  filler : Nat
  drive : Drive
  miso : Byte
  deriving DecidableEq, Repr

/-- One value for each of the three ports. -/
structure PerPort (α : Type) where
  base : α
  console : α
  radio : α
  deriving DecidableEq, Repr

/-! ### Track map (Chapter 1) -/

/-- A segment record (R1). -/
structure Segment where
  used : Bool
  lane : Nat
  length : Nat
  next : Nat
  deriving DecidableEq, Repr

/-- A switch record (R3). -/
structure Switch where
  used : Bool
  home : Nat
  thrown : Nat
  entryOffset : Nat
  exitStraightOffset : Nat
  exitThrownOffset : Nat
  zoneLength : Nat
  group : Option Nat
  actuation : Nat
  deriving DecidableEq, Repr

/-- A gate record (R7). -/
structure Gate where
  used : Bool
  segment : Nat
  offset : Nat
  deriving DecidableEq, Repr

/-- The map tables and the pairing-gate setting (R1, R3, R7, R8): what map writes change and the
settings image holds. -/
structure TrackMap where
  segments : Vector Segment 64
  switches : Vector Switch 24
  gates : Vector Gate 16
  pairingGate : Option Nat
  deriving DecidableEq, Repr

/-! ### Car table (Chapter 2) -/

/-- A sensor's identity: node address and kind (R9). -/
structure Sensor where
  node : NodeNo
  kind : SensorKind
  deriving DecidableEq, Repr

/-- A fix: the sensor and the timestamp of the detection that set it (R24). -/
structure Fix where
  sensor : Sensor
  time : Time
  deriving DecidableEq, Repr

/-- A car's profile (R20). -/
structure Profile where
  enabled : Bool
  vmax : Nat
  response : Nat
  length : Nat
  pace : Bool
  deriving DecidableEq, Repr

/-- A car record: the profile and the runtime record of R23. `intent` is `some t` when ARMED with expiry
`t` (R36); `ageExpiry` is the pending age expiry (R26). -/
structure Car where
  profile : Profile
  binding : Option HandsetNo
  intent : Option Time
  speed : Nat
  fix : Option Fix
  stale : Bool
  ageExpiry : Option Time
  lastStep : Nat
  misroutes : Nat
  refixes : Nat
  deriving DecidableEq, Repr

/-! ### Handset unit (Chapter 3) -/

/-- Handset presence (R42). -/
inductive Presence where
  | absent | active | lost
  deriving DecidableEq, Repr

/-- A handset's pairing state (R62). -/
inductive PairingState where
  | idle | seeking | bound (c : CarNo)
  deriving DecidableEq, Repr

/-- Zero point, full point and deadband (R52). -/
structure Calibration where
  zero : Nat
  full : Nat
  deadband : Nat
  deriving DecidableEq, Repr

/-- A handset record (R42). `holdTimer` is the start time of a running hold timer (R56). -/
structure Handset where
  presence : Presence
  presenceCount : Nat
  pairing : PairingState
  calibration : Calibration
  step : Nat
  button : Bool
  prevSample : Option Bool
  holdTimer : Option Time
  lastSample : Time
  holdEnd : Option Time
  lostTime : Option Time
  deriving DecidableEq, Repr

/-- A channel's raw latch and FRESH flag (R44). -/
structure Latch where
  raw : BitVec 12
  fresh : Bool
  deriving DecidableEq, Repr

/-- The wired scanner (R43, R44): the two settings codes, the next expiry of the interval timer, the
channels of the round in flight still to be converted (none: no round in flight) and the latches. -/
structure Scanner where
  setCode : Nat
  intervalCode : Nat
  nextRound : Time
  round : List Channel
  latches : Vector Latch 8
  deriving DecidableEq, Repr

/-! ### Pairing unit (Chapter 4) -/

/-- An entry of the pairing queue; the handset's seek timer runs from the join time (R63, R64). -/
structure Seek where
  handset : HandsetNo
  joined : Time
  deriving DecidableEq, Repr

/-! ### Lane change arbiter (Chapter 5) -/

/-- An entry of a reservation list (R99). -/
structure Reservation where
  car : CarNo
  entryAt : Time
  exitAt : Time
  grantedAt : Time
  staleAt : Time
  deriving DecidableEq, Repr

/-- The six verdicts, in the order of R191's codes. -/
inductive Verdict where
  | grant | denySwitch | denyLate | denyReserved | denyTraffic | denyFull
  deriving DecidableEq, Repr

/-- A verdict record (R97): flags G, C, L, S, U, the conflict set with bit n for car n, the first
conflicting car, and the requester's narrowed window. -/
structure VerdictRecord where
  car : CarNo
  switch : SwitchNo
  refTime : Time
  verdict : Verdict
  flagG : Bool
  flagC : Bool
  flagL : Bool
  flagS : Bool
  flagU : Bool
  conflicts : BitVec 12
  firstConflict : Option CarNo
  entry : Nat
  exit : Nat
  deriving DecidableEq, Repr

/-! ### Switch controller (Chapter 6) -/

/-- Switch states, in the order of R110. -/
inductive SwitchState where
  | straight | throwing | thrown | returning | locked | fault
  deriving DecidableEq, Repr

/-- A commanded position (R110). -/
inductive Position where
  | straight | thrown
  deriving DecidableEq, Repr

/-- A confirmed position (R110). -/
inductive Confirmed where
  | straight | thrown | unknown
  deriving DecidableEq, Repr

/-- A switch's runtime record (R110). -/
structure SwitchRun where
  state : SwitchState
  commanded : Position
  confirmed : Confirmed
  deadline : Option Time
  throwCount : Nat
  faultCount : Nat
  straightPassages : Nat
  thrownPassages : Nat
  deriving DecidableEq, Repr

/-! ### Sensor loop controller (Chapter 7) -/

/-- Node states, in the order of R132. -/
inductive NodeState where
  | unpolled | ok | missing | fault
  deriving DecidableEq, Repr

/-- A node's record (R132). -/
structure NodeRecord where
  state : NodeState
  missCount : Nat
  goodCount : Nat
  exchanges : Nat
  misses : Nat
  lastAnswer : Option Time
  lastMiss : Option Time
  deriving DecidableEq, Repr

/-- The command a poll carries, in the order of R134. -/
inductive PollCommand where
  | setThrown | setStraight | none
  deriving DecidableEq, Repr

/-- The exchange in flight (R134): the node polled, the command fixed when the poll was made, whether it
is an urgent exchange (R145), the expiry of the reply timer once the poll has been sent, and whether the
node left the polled set meanwhile, so that the outcome is to be discarded (R133). -/
structure Exchange where
  node : NodeNo
  command : PollCommand
  urgent : Bool
  replyBy : Option Time
  discard : Bool
  deriving DecidableEq, Repr

/-- SLC's state: node table, urgent list, round pointer and urgent run count (Section 7 opening), and the
exchange on the line, if any. -/
structure Loop where
  nodes : Vector NodeRecord 40
  urgent : List SwitchNo
  pointer : NodeNo
  urgentRun : Nat
  exchange : Option Exchange
  deriving DecidableEq, Repr

/-! ### Race state controller (Chapter 9) -/

/-- Race states, in the order of R191's codes. -/
inductive RaceState where
  | setup | run | caution | halt
  deriving DecidableEq, Repr

/-! ### Frame builder (Chapter 8) -/

/-- A published frame (R150). -/
structure CarFrame where
  seq : Byte
  race : RaceState
  words : Vector (BitVec 16) 12
  deriving DecidableEq, Repr

/-- An instant in quarters of a tu (25 µs): the cycle length is a whole number of quarters and need not
be a whole number of tu (R151). -/
structure Instant where
  tu : Time
  quarter : BitVec 2
  deriving DecidableEq, Repr

/-- FRB's state (R150); `cycleEnd` is the cycle timer's next expiry. -/
structure FrameBuilder where
  trim : Nat
  cycleEnd : Instant
  seq : Byte
  published : Option CarFrame
  fetched : Bool
  missed : Nat
  framePending : Bool
  deriving DecidableEq, Repr

/-! ### Event unit (Chapter 11) -/

/-- Reasons of SEEK_REFUSED, in R191's order. -/
inductive SeekRefusal where
  | alreadySeeking | queueFull | storeBusy
  deriving DecidableEq, Repr

/-- Sources of BOUND, in R191's order. -/
inductive BindSource where
  | gate | console
  deriving DecidableEq, Repr

/-- Causes of UNBOUND, in R191's order. -/
inductive UnbindCause where
  | reseek | console | disabled
  deriving DecidableEq, Repr

/-- Reasons of REFIX, in the order of R31. -/
inductive RefixReason where
  | noFix | stale | time | unreachable | distance
  deriving DecidableEq, Repr

/-- Causes of SW_STATE, in the order of R127's table. -/
inductive SwitchCause where
  | throwOrder | returnOrder | confirm | slip | deadline | nodeFault | lock | unlock | clear
  deriving DecidableEq, Repr

/-- Causes of REVOKED, in R191's order. -/
inductive RevokeCause where
  | superseded | fault | lock | halt
  deriving DecidableEq, Repr

/-- Reasons of BAD_CAR, in R191's order. -/
inductive BadCarReason where
  | invalidId | disabled
  deriving DecidableEq, Repr

/-- Causes of HS_ABSENT, in R191's order. -/
inductive AbsentCause where
  | lowInput | scanSet
  deriving DecidableEq, Repr

/-- Causes of RACE_STATE, in R191's order. -/
inductive RaceCause where
  | start | caution | clearCaution | halt | resume | setup | rail
  deriving DecidableEq, Repr

/-- The two store operations, in R191's order. -/
inductive StoreOp where
  | save | load
  deriving DecidableEq, Repr

/-- Reasons of STORE_FAIL, in R191's order. -/
inductive StoreReason where
  | noAck | marker | sum | range | binding | state
  deriving DecidableEq, Repr

/-- What an event record reports: its kind with the subjects and data of R191 by name. The twelve bytes
a master reads are computed from it (Machine/Events.lean). -/
inductive Event where
  | seekStart (h : HandsetNo) (position : Nat)
  | seekRefused (h : HandsetNo) (c : Option CarNo) (reason : SeekRefusal)
  | seekTimeout (h : HandsetNo) (joined : Time)
  | bound (h : HandsetNo) (c : CarNo) (source : BindSource)
  | unbound (h : HandsetNo) (c : Option CarNo) (cause : UnbindCause)
  | verdict (v : VerdictRecord)
  | misroute (c : CarNo) (j : SwitchNo) (count : Nat)
  | carried (c : CarNo) (j : SwitchNo) (state : SwitchState)
  | refix (c : CarNo) (q : Sensor) (reason : RefixReason)
  | switchState (j : SwitchNo) (previous new : SwitchState) (cause : SwitchCause) (confirmed : Confirmed)
  | revoked (c : CarNo) (j : SwitchNo) (cause : RevokeCause)
  | staleRes (c : CarNo) (j : SwitchNo) (exitAt : Time)
  | nodeFault (a : NodeNo) (exchanges misses : Nat)
  | nodeOk (a : NodeNo) (lastMiss : Time)
  | nodeDropped (a : NodeNo) (records : Nat)
  | badCar (a : NodeNo) (carId : Nat) (kind : SensorKind) (reason : BadCarReason) (age : Nat)
  | handsetActive (h : HandsetNo) (c : Option CarNo) (input : Nat)
  | handsetLost (h : HandsetNo) (c : Option CarNo) (lastSample : Time)
  | handsetAbsent (h : HandsetNo) (c : Option CarNo) (cause : AbsentCause)
  | raceState (previous new : RaceState) (cause : RaceCause)
  | railFault (found : RaceState)
  | railClear (found : RaceState)
  | storeDone (op : StoreOp) (generation : BitVec 16)
  | storeFail (op : StoreOp) (reason : StoreReason)
  | sat (c : CarNo) (j : SwitchNo) (verdict : Verdict)
  deriving DecidableEq, Repr

/-- An event record: what is reported, and the race clock when the raising block took its arrival (R190). -/
structure EventRecord where
  time : Time
  event : Event
  deriving DecidableEq, Repr

/-- A port's five sticky flags (R196). -/
structure StickyFlags where
  railFault : Bool
  overrun : Bool
  satSeen : Bool
  nodeFaultSeen : Bool
  misrouteSeen : Bool
  deriving DecidableEq, Repr

/-- EVU's state for one port: event queue, class mask, drop count and sticky flags (R192, R196). -/
structure EventPort where
  queue : List EventRecord
  mask : BitVec 9
  drops : Nat
  flags : StickyFlags
  deriving DecidableEq, Repr

/-! ### Limits, settings store (Chapters 10 and 11) -/

/-- The five limits of R188. -/
structure Limits where
  guardTime : Nat
  intentHold : Nat
  cautionStep : Nat
  paceStep : Nat
  satEvents : Bool
  deriving DecidableEq, Repr

/-- Where a save has got to: the three stages of R199. -/
inductive SaveStage where
  | clearMarker | contents | setMarker
  deriving DecidableEq, Repr

/-- A save in flight (R199): its stage, the further writes of that stage after the one outstanding, and
the time by which the outstanding write must be confirmed. -/
structure SaveProgress where
  stage : SaveStage
  left : Nat
  confirmBy : Time
  deriving DecidableEq, Repr

/-- SSI's state (R198). -/
inductive StoreState where
  | idle | saving (p : SaveProgress) | loading
  deriving DecidableEq, Repr

/-- The settings image as the external memory holds it (R198). `marker` says whether the marker word
marks a complete image. The numbers are held as stored, in range or not. DESIGN CHOICE: a yes/no field (used,
enabled, pace, SAT events) is held as yes or no, so no image holds such a field out of its range (log entry
40). -/
structure Image where
  marker : Bool
  generation : BitVec 16
  map : TrackMap
  profiles : Vector Profile 12
  bindings : Vector (Option Nat) 12
  calibrations : Vector Calibration 16
  scanSet : Nat
  scanInterval : Nat
  trim : Nat
  limits : Limits
  sum : BitVec 16
  deriving DecidableEq, Repr

/-! ### The whole part -/

/-- The machine. `pending` is the queue of waiting commands, first in first out. `quarter` is the part of
a tu passed since the race clock last counted, in 25 µs. `resetHeld` is the reset pin held low. `straps`
are the strap pins as last sampled. `restartAccepted` waits for the console's chip select to rise (R174). `picks` counts
the choices made by `Config.duePick`. `memory` is the settings memory's image. -/
structure State where
  pending : List Instr
  clock : Time
  quarter : BitVec 2
  picks : Nat
  resetHeld : Bool
  straps : Straps
  restartAccepted : Bool
  ports : PerPort PortState
  events : PerPort EventPort
  map : TrackMap
  mapValid : Bool
  cars : Vector Car 12
  handsets : Vector Handset 16
  scanner : Scanner
  seeks : List Seek
  lists : Vector (List Reservation) 24
  verdicts : Vector (Option VerdictRecord) 24
  switches : Vector SwitchRun 24
  loop : Loop
  frames : FrameBuilder
  race : RaceState
  railHold : Bool
  limits : Limits
  store : StoreState
  generation : BitVec 16
  memory : Image
  deriving DecidableEq, Repr

/-- Why a command could stop the machine. Nothing raises it: the manual gives every command an effect in
every state, so every meaning answers a next state. The one constructor stands because a closed type of
reasons is asked for. Safe, being unused. -/
inductive Fault where
  /-- Raised by nothing; safe. -/
  | noneRaised
  deriving DecidableEq, Repr

/-- Why a command could be refused by the model. -/
inductive Refusal where
  /-- Raised by an arm of `exec` for a command that has no meaning yet; none is left. Safe. -/
  | notModelled (mnemonic : String)
  deriving DecidableEq, Repr

/-! ### Reset values -/

/-- The default of an unused segment record (R1). -/
def Segment.unused : Segment := { used := false, lane := 0, length := 1000, next := 0 }

/-- The default of an unused switch record (R3). -/
def Switch.unused : Switch :=
  { used := false, home := 0, thrown := 0, entryOffset := 0, exitStraightOffset := 0,
    exitThrownOffset := 0, zoneLength := 200, group := none, actuation := 250 }

/-- The default of an unused gate record (R7). -/
def Gate.unused : Gate := { used := false, segment := 0, offset := 0 }

/-- MAP after power-on reset (R19). -/
def TrackMap.reset : TrackMap :=
  { segments := Vector.replicate 64 Segment.unused
    switches := Vector.replicate 24 Switch.unused
    gates := Vector.replicate 16 Gate.unused
    pairingGate := none }

/-- The default profile (R20). -/
def Profile.reset : Profile :=
  { enabled := false, vmax := 3000, response := 4, length := 140, pace := false }

/-- A car record after power-on reset (R23). -/
def Car.reset : Car :=
  { profile := Profile.reset, binding := none, intent := none, speed := 0, fix := none, stale := false,
    ageExpiry := none, lastStep := 0, misroutes := 0, refixes := 0 }

/-- The default calibrations: wired handsets 0–7, radio handsets 8–15 (R52). -/
def Calibration.reset (h : HandsetNo) : Calibration :=
  if h.val < 8 then { zero := 400, full := 3700, deadband := 100 }
  else { zero := 16, full := 240, deadband := 8 }

/-- A handset record after power-on reset (R42). -/
def Handset.reset (h : HandsetNo) : Handset :=
  { presence := .absent, presenceCount := 0, pairing := .idle, calibration := Calibration.reset h,
    step := 0, button := false, prevSample := none, holdTimer := none, lastSample := 0, holdEnd := none,
    lostTime := none }

/-- The scanner after power-on reset: set code 2, interval code 1, the first round after 20 tu (R61). -/
def Scanner.reset : Scanner :=
  { setCode := 2, intervalCode := 1, nextRound := 20, round := [],
    latches := Vector.replicate 8 { raw := 0, fresh := false } }

/-- A switch's runtime record after power-on reset (R110, R131). -/
def SwitchRun.reset : SwitchRun :=
  { state := .straight, commanded := .straight, confirmed := .unknown, deadline := none, throwCount := 0,
    faultCount := 0, straightPassages := 0, thrownPassages := 0 }

/-- A node's record after power-on reset (R149). -/
def NodeRecord.reset : NodeRecord :=
  { state := .unpolled, missCount := 0, goodCount := 0, exchanges := 0, misses := 0, lastAnswer := none,
    lastMiss := none }

/-- SLC after power-on reset (R149). -/
def Loop.reset : Loop :=
  { nodes := Vector.replicate 40 NodeRecord.reset, urgent := [], pointer := 0, urgentRun := 0,
    exchange := none }

/-- FRB after power-on reset; the first cycle end at trim 32 comes after 8,000 µs, which is 80 tu
(R150, R161). -/
def FrameBuilder.reset : FrameBuilder :=
  { trim := 32, cycleEnd := { tu := 80, quarter := 0 }, seq := 0, published := none, fetched := false,
    missed := 0, framePending := false }

/-- The limits after power-on reset (R188). -/
def Limits.reset : Limits :=
  { guardTime := 150, intentHold := 15, cautionStep := 24, paceStep := 20, satEvents := false }

/-- A port after power-on reset, its drive taken from its strap (R176). The MISO byte FFh is a DESIGN
CHOICE (log entry 1). -/
def PortState.reset (d : Drive) : PortState :=
  { phase := .idle, request := none, reply := none, aborted := 0, cut := 0, filler := 0, drive := d, miso := 0xFF }

/-- No sticky flag set (R202). -/
def StickyFlags.clear : StickyFlags :=
  { railFault := false, overrun := false, satSeen := false, nodeFaultSeen := false, misrouteSeen := false }

/-- EVU's state for a port after power-on reset, with the default mask given (R202). -/
def EventPort.reset (mask : BitVec 9) : EventPort :=
  { queue := [], mask := mask, drops := 0, flags := StickyFlags.clear }

/-- A blank settings memory, which reads as an image with no marker (R200). DESIGN CHOICE for the memory's
contents before the first save (log entry 1). -/
def Image.blank : Image :=
  { marker := false, generation := 0, map := TrackMap.reset, profiles := Vector.replicate 12 Profile.reset,
    bindings := Vector.replicate 12 none, calibrations := Vector.ofFn Calibration.reset, scanSet := 2,
    scanInterval := 1, trim := 32, limits := Limits.reset, sum := 0 }

/-- The machine right after a power-on reset with the LOAD strap low (R173, R202): every block at its
power-on values, the race clock at 0, and the masks at their defaults (base RACE and NODE, console all
nine classes, radio PAIR and HANDSET). -/
def State.reset : State :=
  { pending := []
    clock := 0
    quarter := 0
    picks := 0
    resetHeld := false
    straps := Straps.low
    restartAccepted := false
    ports := { base := PortState.reset .pushPull, console := PortState.reset .pushPull,
               radio := PortState.reset .pushPull }
    events := { base := EventPort.reset 0x050, console := EventPort.reset 0x1FF,
                radio := EventPort.reset 0x021 }
    map := TrackMap.reset
    mapValid := false
    cars := Vector.replicate 12 Car.reset
    handsets := Vector.ofFn Handset.reset
    scanner := Scanner.reset
    seeks := []
    lists := Vector.replicate 24 []
    verdicts := Vector.replicate 24 none
    switches := Vector.replicate 24 SwitchRun.reset
    loop := Loop.reset
    frames := FrameBuilder.reset
    race := .setup
    railHold := false
    limits := Limits.reset
    store := .idle
    generation := 0
    memory := Image.blank }

end Sys2Proof.Machine
end

