-- ==== Sys2Proof/Machine/Ops.lean ====
section
/-! DEFINITION. The shared operations under every block: time on the race clock, saturating counts, tables,
and the updates of one port, car, handset, switch or node. -/

namespace Sys2Proof.Machine

/-! ### The race clock -/

/-- The race clock `now` has reached `t`: it is at `t` or less than half a turn of the 32-bit counter past
it, so that a time stored before the clock wraps is still reached after the wrap (Section 6.3, R64). DEDUCED (log
entry 30). -/
def reached (now t : Time) : Bool := (now - t).toNat < 2 ^ 31

/-- A pending expiry has come: there is one, and the race clock has reached it. -/
def due (now : Time) (t : Option Time) : Bool :=
  match t with
  | some t => reached now t
  | none => false

/-- The time `n` tu after `t`, modulo 2^32. -/
def later (t : Time) (n : Nat) : Time := t + BitVec.ofNat 32 n

/-- `a − b` modulo 2^32, read as an unsigned value (Section 6.3). -/
def elapsed (a b : Time) : Nat := (a - b).toNat

/-- `a − b` modulo 2^32, read as a signed 32-bit value (R28, R94, R100). -/
def signedElapsed (a b : Time) : Int := (a - b).toInt

/-- An instant as one count of quarter tu, which wraps with the race clock. -/
def Instant.bits (i : Instant) : BitVec 34 := i.tu ++ i.quarter

/-- The instant that a count of quarter tu names. -/
def Instant.ofBits (b : BitVec 34) : Instant := { tu := b.extractLsb' 2 32, quarter := b.extractLsb' 0 2 }

/-- The instant `n` quarter tu after `i`. -/
def Instant.plus (i : Instant) (n : Nat) : Instant := Instant.ofBits (i.bits + BitVec.ofNat 34 n)

/-- The part's present instant: the race clock and the quarters of a tu passed since it last counted. -/
def State.now (s : State) : Instant := { tu := s.clock, quarter := s.quarter }

/-- `t` has been reached at `i`. -/
def Instant.hasReached (i t : Instant) : Bool := (i.bits - t.bits).toNat < 2 ^ 33

/-- 25 µs pass: the race clock counts once in four of these. -/
def passQuarter (s : State) : State :=
  { s with clock := (s.now.plus 1).tu, quarter := (s.now.plus 1).quarter }

/-! ### Counts, numbers and tables -/

/-- One more, stopping at `cap` (Section 6.4: a saturating count stops at the largest value stated). -/
def bump (cap n : Nat) : Nat := if n < cap then n + 1 else n

/-- All car numbers, ascending. -/
def carNos : List CarNo := List.finRange 12

/-- All handset numbers, ascending. -/
def handsetNos : List HandsetNo := List.finRange 16

/-- All switch numbers, ascending. -/
def switchNos : List SwitchNo := List.finRange 24

/-- All node addresses, ascending. -/
def nodeNos : List NodeNo := List.finRange 40

/-- A table with its entry `i` changed by `f`. -/
def update {α : Type} {n : Nat} (v : Vector α n) (i : Fin n) (f : α → α) : Vector α n := v.set i (f v[i])

/-- A table with every entry changed by `f`. -/
def updateAll {α β : Type} {n : Nat} (v : Vector α n) (f : Fin n → α → β) : Vector β n :=
  Vector.ofFn fun i => f i v[i]

/-- The entry of one port. -/
def PerPort.get {α : Type} (x : PerPort α) (p : Port) : α :=
  match p with
  | .base => x.base
  | .console => x.console
  | .radio => x.radio

/-- The entries with that of one port changed. -/
def PerPort.update {α : Type} (x : PerPort α) (p : Port) (f : α → α) : PerPort α :=
  match p with
  | .base => { x with base := f x.base }
  | .console => { x with console := f x.console }
  | .radio => { x with radio := f x.radio }

/-- Every port's entry changed. -/
def PerPort.map {α : Type} (x : PerPort α) (f : α → α) : PerPort α :=
  { base := f x.base, console := f x.console, radio := f x.radio }

/-- The switch node address of a switch: its own number (R3). -/
def switchNode (j : SwitchNo) : NodeNo := ⟨j.val, by omega⟩

/-- The wired handset that a channel carries: the same number (R42). -/
def channelHandset (ch : Channel) : HandsetNo := ⟨ch.val, by omega⟩

/-! ### Updates of one entry of the state -/

/-- One port's transaction state changed. -/
def State.modifyPort (s : State) (p : Port) (f : PortState → PortState) : State :=
  { s with ports := s.ports.update p f }

/-- One port's event state changed. -/
def State.modifyEvents (s : State) (p : Port) (f : EventPort → EventPort) : State :=
  { s with events := s.events.update p f }

/-- One car record changed. -/
def State.modifyCar (s : State) (c : CarNo) (f : Car → Car) : State := { s with cars := update s.cars c f }

/-- Every car record changed. -/
def State.modifyCars (s : State) (f : Car → Car) : State :=
  { s with cars := updateAll s.cars fun _ => f }

/-- One handset record changed. -/
def State.modifyHandset (s : State) (h : HandsetNo) (f : Handset → Handset) : State :=
  { s with handsets := update s.handsets h f }

/-- One switch's runtime record changed. -/
def State.modifySwitch (s : State) (j : SwitchNo) (f : SwitchRun → SwitchRun) : State :=
  { s with switches := update s.switches j f }

/-- One switch's reservation list replaced. -/
def State.setList (s : State) (j : SwitchNo) (l : List Reservation) : State :=
  { s with lists := update s.lists j fun _ => l }

/-- One node record changed. -/
def State.modifyNode (s : State) (a : NodeNo) (f : NodeRecord → NodeRecord) : State :=
  { s with loop := { s.loop with nodes := update s.loop.nodes a f } }

/-- The urgent list replaced. -/
def State.setUrgent (s : State) (l : List SwitchNo) : State := { s with loop := { s.loop with urgent := l } }

/-- A command's effect while the part is not held in reset. With the reset pin low the part answers no
port, polls no node, scans no handset and publishes no frame, so nothing but the release acts on it
(R173). DEDUCED (log entry 18). -/
def whenRunning (s : State) (f : State → State) : Host.Outcome State Fault Refusal :=
  .next (if s.resetHeld then s else f s)

end Sys2Proof.Machine
end

