-- ==== Sys2Proof/Machine/Events.lean ====
section
/-! DEFINITION. EVU's taking of an event record, and the twelve bytes in which a master sees one
(R190 to R192, R196). -/

namespace Sys2Proof.Machine

/-! ### Classes and kinds (R191) -/

/-- The mask bit of an event's class; the class code is one more (R191). -/
def Event.maskBit (e : Event) : Nat :=
  match e with
  | .seekStart .. | .seekRefused .. | .seekTimeout .. | .bound .. | .unbound .. => 0
  | .verdict .. => 1
  | .misroute .. | .carried .. | .refix .. => 2
  | .switchState .. | .revoked .. | .staleRes .. => 3
  | .nodeFault .. | .nodeOk .. | .nodeDropped .. | .badCar .. => 4
  | .handsetActive .. | .handsetLost .. | .handsetAbsent .. => 5
  | .raceState .. | .railFault .. | .railClear .. => 6
  | .storeDone .. | .storeFail .. => 7
  | .sat .. => 8

/-- An event's kind code within its class (R191). -/
def Event.kindCode (e : Event) : Nat :=
  match e with
  | .seekStart .. => 1
  | .seekRefused .. => 2
  | .seekTimeout .. => 3
  | .bound .. => 4
  | .unbound .. => 5
  | .verdict .. => 1
  | .misroute .. => 1
  | .carried .. => 2
  | .refix .. => 3
  | .switchState .. => 1
  | .revoked .. => 2
  | .staleRes .. => 3
  | .nodeFault .. => 1
  | .nodeOk .. => 2
  | .nodeDropped .. => 3
  | .badCar .. => 4
  | .handsetActive .. => 1
  | .handsetLost .. => 2
  | .handsetAbsent .. => 3
  | .raceState .. => 1
  | .railFault .. => 2
  | .railClear .. => 3
  | .storeDone .. => 1
  | .storeFail .. => 2
  | .sat .. => 1

/-! ### Codes (R191) -/

/-- Race states 0–3 (R191). -/
def RaceState.code (r : RaceState) : Nat :=
  match r with
  | .setup => 0
  | .run => 1
  | .caution => 2
  | .halt => 3

/-- Switch states 0–5 (R191). -/
def SwitchState.code (x : SwitchState) : Nat :=
  match x with
  | .straight => 0
  | .throwing => 1
  | .thrown => 2
  | .returning => 3
  | .locked => 4
  | .fault => 5

/-- Positions 0 STRAIGHT, 1 THROWN (R191). -/
def Position.code (x : Position) : Nat :=
  match x with
  | .straight => 0
  | .thrown => 1

/-- Positions 0 STRAIGHT, 1 THROWN, 2 UNKNOWN (R191). -/
def Confirmed.code (x : Confirmed) : Nat :=
  match x with
  | .straight => 0
  | .thrown => 1
  | .unknown => 2

/-- Sensor kinds 0–3 (R191). -/
def sensorCode (k : SensorKind) : Nat :=
  match k with
  | .entry => 0
  | .exitStraight => 1
  | .exitThrown => 2
  | .gate => 3

/-- Verdicts 0–5 (R191). -/
def Verdict.code (v : Verdict) : Nat :=
  match v with
  | .grant => 0
  | .denySwitch => 1
  | .denyLate => 2
  | .denyReserved => 3
  | .denyTraffic => 4
  | .denyFull => 5

/-- Reasons of SEEK_REFUSED (R191). -/
def SeekRefusal.code (x : SeekRefusal) : Nat :=
  match x with
  | .alreadySeeking => 0
  | .queueFull => 1
  | .storeBusy => 2

/-- Sources of BOUND (R191). -/
def BindSource.code (x : BindSource) : Nat :=
  match x with
  | .gate => 0
  | .console => 1

/-- Causes of UNBOUND (R191). -/
def UnbindCause.code (x : UnbindCause) : Nat :=
  match x with
  | .reseek => 0
  | .console => 1
  | .disabled => 2

/-- Reasons of REFIX (R191). -/
def RefixReason.code (x : RefixReason) : Nat :=
  match x with
  | .noFix => 0
  | .stale => 1
  | .time => 2
  | .unreachable => 3
  | .distance => 4

/-- Causes of SW_STATE, from 0 THROW to 8 CLEAR (R191). -/
def SwitchCause.code (x : SwitchCause) : Nat :=
  match x with
  | .throwOrder => 0
  | .returnOrder => 1
  | .confirm => 2
  | .slip => 3
  | .deadline => 4
  | .nodeFault => 5
  | .lock => 6
  | .unlock => 7
  | .clear => 8

/-- Causes of REVOKED (R191). -/
def RevokeCause.code (x : RevokeCause) : Nat :=
  match x with
  | .superseded => 0
  | .fault => 1
  | .lock => 2
  | .halt => 3

/-- Reasons of BAD_CAR (R191). -/
def BadCarReason.code (x : BadCarReason) : Nat :=
  match x with
  | .invalidId => 0
  | .disabled => 1

/-- Causes of HS_ABSENT (R191). -/
def AbsentCause.code (x : AbsentCause) : Nat :=
  match x with
  | .lowInput => 0
  | .scanSet => 1

/-- Causes of RACE_STATE: the SET RACE STATE targets 0–5, then 6 RAIL (R191). -/
def RaceCause.code (x : RaceCause) : Nat :=
  match x with
  | .start => 0
  | .caution => 1
  | .clearCaution => 2
  | .halt => 3
  | .resume => 4
  | .setup => 5
  | .rail => 6

/-- Store operations (R191). -/
def StoreOp.code (x : StoreOp) : Nat :=
  match x with
  | .save => 0
  | .load => 1

/-- Reasons of STORE_FAIL (R191). -/
def StoreReason.code (x : StoreReason) : Nat :=
  match x with
  | .noAck => 0
  | .marker => 1
  | .sum => 2
  | .range => 3
  | .binding => 4
  | .state => 5

/-! ### Byte encodings (R181) -/

/-- A number in one byte. -/
def byte (n : Nat) : Byte := BitVec.ofNat 8 n

/-- A number in two bytes, the low byte first (R181). -/
def bytes2 (n : Nat) : List Byte := [byte n, byte (n / 256)]

/-- A race-clock time in four bytes, the low byte first (R181). -/
def bytes4 (t : Time) : List Byte :=
  [t.extractLsb' 0 8, t.extractLsb' 8 8, t.extractLsb' 16 8, t.extractLsb' 24 8]

/-- A number in one byte, or FFh for NONE (R181). -/
def byteOrNone (n : Option Nat) : Byte :=
  match n with
  | some n => byte n
  | none => 0xFF

/-- A car number as a plain number, or NONE. -/
def carNumber (c : Option CarNo) : Option Nat := c.map Fin.val

/-! ### The event record's bytes (R190, R191) -/

/-- VERDICT data: conflict set in bits 11:0, first conflicting car (Fh for NONE) in 15:12, flags G, C, L,
S, U in 20:16 and the verdict in 23:21 (R191). -/
def VerdictRecord.data (v : VerdictRecord) : BitVec 32 :=
  let first : BitVec 4 := match v.firstConflict with
    | some c => BitVec.ofNat 4 c.val
    | none => 0xF
  let flag (b : Bool) : BitVec 1 := BitVec.ofBool b
  (0 : BitVec 8) ++ BitVec.ofNat 3 v.verdict.code ++ flag v.flagU ++ flag v.flagS ++ flag v.flagL ++
    flag v.flagC ++ flag v.flagG ++ first ++ v.conflicts

/-- Subject A, a number or NONE (R190; R31, R60, R79, R98, R102, R103, R127, R138, R141, R143, R171, R197).
DEDUCED for REVOKED, whose rules name the car and the switch and not which is subject A (R84, R104, R105), and for
STORE_DONE and STORE_FAIL, for which no rule names a subject (R199, R200; log entry 36). -/
def Event.subjectA (e : Event) : Option Nat :=
  match e with
  | .seekStart h _ | .seekRefused h _ _ | .seekTimeout h _ | .bound h _ _ | .unbound h _ _ => some h.val
  | .verdict v => some v.car.val
  | .misroute c _ _ | .carried c _ _ | .refix c _ _ => some c.val
  | .switchState j _ _ _ _ => some j.val
  | .revoked c _ _ | .staleRes c _ _ => some c.val
  | .nodeFault a _ _ | .nodeOk a _ | .nodeDropped a _ | .badCar a _ _ _ _ => some a.val
  | .handsetActive h _ _ | .handsetLost h _ _ | .handsetAbsent h _ _ => some h.val
  | .raceState .. | .railFault .. | .railClear .. | .storeDone .. | .storeFail .. => none
  | .sat c _ _ => some c.val

/-- Subject B, a number or NONE (the rules of `Event.subjectA`; DEDUCED for the same three kinds, log
entry 36). -/
def Event.subjectB (e : Event) : Option Nat :=
  match e with
  | .seekStart .. | .seekTimeout .. => none
  | .seekRefused _ c _ | .unbound _ c _ => carNumber c
  | .bound _ c _ => some c.val
  | .verdict v => some v.switch.val
  | .misroute _ j _ | .carried _ j _ => some j.val
  | .refix _ q _ => some q.node.val
  | .switchState .. => none
  | .revoked _ j _ | .staleRes _ j _ => some j.val
  | .nodeFault .. | .nodeOk .. | .nodeDropped .. => none
  | .badCar _ id _ _ _ => some id
  | .handsetActive _ c _ | .handsetLost _ c _ | .handsetAbsent _ c _ => carNumber c
  | .raceState .. | .railFault .. | .railClear .. | .storeDone .. | .storeFail .. => none
  | .sat _ j _ => some j.val

/-- The data bytes 0–3; unused bytes are 0 (R191). -/
def Event.data (e : Event) : List Byte :=
  match e with
  | .seekStart _ n => [byte n, 0, 0, 0]
  | .seekRefused _ _ r => [byte r.code, 0, 0, 0]
  | .seekTimeout _ t => bytes4 t
  | .bound _ _ x => [byte x.code, 0, 0, 0]
  | .unbound _ _ x => [byte x.code, 0, 0, 0]
  | .verdict v => bytes4 v.data
  | .misroute _ _ n => [byte n, 0, 0, 0]
  | .carried _ _ x => [byte x.code, 0, 0, 0]
  | .refix _ q r => [byte (sensorCode q.kind), byte r.code, 0, 0]
  | .switchState _ a b x c => [byte a.code, byte b.code, byte x.code, byte c.code]
  | .revoked _ _ x => [byte x.code, 0, 0, 0]
  | .staleRes _ _ t => bytes4 t
  | .nodeFault _ n m => bytes2 n ++ bytes2 m
  | .nodeOk _ t => bytes4 t
  | .nodeDropped _ n => [byte n, 0, 0, 0]
  | .badCar _ _ k r n => [byte (sensorCode k), byte r.code] ++ bytes2 n
  | .handsetActive _ _ n => bytes2 n ++ [0, 0]
  | .handsetLost _ _ t => bytes4 t
  | .handsetAbsent _ _ x => [byte x.code, 0, 0, 0]
  | .raceState a b x => [byte a.code, byte b.code, byte x.code, 0]
  | .railFault r => [byte r.code, 0, 0, 0]
  | .railClear r => [byte r.code, 0, 0, 0]
  | .storeDone x g => [byte x.code, 0] ++ bytes2 g.toNat
  | .storeFail x r => [byte x.code, byte r.code, 0, 0]
  | .sat _ _ v => [byte v.code, 0, 0, 0]

/-- The twelve bytes of a record (R190). -/
def EventRecord.bytes (r : EventRecord) : List Byte :=
  [byte (r.event.maskBit + 1), byte r.event.kindCode] ++ bytes4 r.time ++
    [byteOrNone r.event.subjectA, byteOrNone r.event.subjectB] ++ r.event.data

/-! ### Taking a record (R192, R196) -/

/-- The sticky flags that raising an event sets, on every port (R196): NODE_FAULT and MISROUTE. -/
def StickyFlags.markedBy (f : StickyFlags) (e : Event) : StickyFlags :=
  match e with
  | .nodeFault .. => { f with nodeFaultSeen := true }
  | .misroute .. => { f with misrouteSeen := true }
  | _ => f

/-- One port's decision on a record offered to it (R192): not admitted, appended, or dropped with the
OVERRUN flag. -/
def EventPort.offer (q : EventPort) (r : EventRecord) : EventPort :=
  if q.mask.getLsbD r.event.maskBit then
    if q.queue.length < 32 then { q with queue := q.queue ++ [r] }
    else { q with drops := bump 255 q.drops, flags := { q.flags with overrun := true } }
  else q

/-- A block raises an event: EVU sets the sticky flags its raising sets, and offers the record, stamped
with the race clock, to each port (R190, R192, R196). -/
def raise (e : Event) (s : State) : State :=
  { s with events := s.events.map fun q =>
      ({ q with flags := q.flags.markedBy e } : EventPort).offer { time := s.clock, event := e } }

/-- A sticky flag set on every port (R196). -/
def flagAllPorts (f : StickyFlags → StickyFlags) (s : State) : State :=
  { s with events := s.events.map fun q => { q with flags := f q.flags } }

end Sys2Proof.Machine
end

