-- ==== Sys2Proof/Machine/Map.lean ====
section
/-! DEFINITION. MAP: records, sensors, map walks and validation (Chapter 1). -/

namespace Sys2Proof.Machine

/-! ### Records -/

/-- Segment record `n`; a number above 63 names no segment and reads as an unused one. DESIGN CHOICE (log
entry 26). -/
def TrackMap.segment (m : TrackMap) (n : Nat) : Segment := (m.segments[n]?).getD Segment.unused

/-- Switch record `j`. -/
def TrackMap.switch (m : TrackMap) (j : SwitchNo) : Switch := m.switches[j]

/-- Gate record `n`; a number above 15 names no gate and reads as an unused one. DESIGN CHOICE (log entry
26). -/
def TrackMap.gate (m : TrackMap) (n : Nat) : Gate := (m.gates[n]?).getD Gate.unused

/-- A segment record's fields lie in the ranges of R1, as WRITE SEGMENT checks them (R2). -/
def Segment.inRange (r : Segment) : Bool := r.lane ≤ 3 && 50 ≤ r.length && r.length ≤ 10000 && r.next ≤ 63

/-- A switch record's fields lie in the ranges of R3, as WRITE SWITCH checks them (R4). -/
def Switch.inRange (r : Switch) : Bool :=
  r.home ≤ 63 && r.thrown ≤ 63 && r.entryOffset ≤ 9999 && r.exitStraightOffset ≤ 9999 &&
    r.exitThrownOffset ≤ 9999 && 50 ≤ r.zoneLength && r.zoneLength ≤ 2000 && r.group.all (· ≤ 7) &&
    50 ≤ r.actuation && r.actuation ≤ 1000

/-- A gate record's fields lie in the ranges of R7. -/
def Gate.inRange (r : Gate) : Bool := r.segment ≤ 63 && r.offset ≤ 9999

/-- A pairing-gate setting is a gate number 0–15 or NONE (R8). -/
def pairingGateInRange (g : Option Nat) : Bool := g.all (· ≤ 15)

/-- Every record of the tables and the setting lie in range (R1, R3, R7, R8). -/
def TrackMap.inRange (m : TrackMap) : Bool :=
  m.segments.toList.all Segment.inRange && m.switches.toList.all Switch.inRange &&
    m.gates.toList.all Gate.inRange && pairingGateInRange m.pairingGate

/-! ### Nodes and sensors (R9, R10) -/

/-- The switch of a switch node (R3). -/
def nodeSwitch (a : NodeNo) : Option SwitchNo := if h : a.val < 24 then some ⟨a.val, h⟩ else none

/-- The record a node belongs to is used, so that the node is in the polled set (R132). -/
def TrackMap.polled (m : TrackMap) (a : NodeNo) : Bool :=
  match nodeSwitch a with
  | some j => (m.switch j).used
  | none => (m.gate (a.val - 24)).used

/-- A sensor kind belongs to a node: GATE to gate nodes, the other three to switch nodes (R9). -/
def kindBelongs (a : NodeNo) (k : SensorKind) : Bool := (k == .gate) == (nodeSwitch a).isNone

/-- The segment and offset of a sensor's record, whether used or not (R9). -/
def TrackMap.sensorPlace (m : TrackMap) (q : Sensor) : Nat × Nat :=
  match nodeSwitch q.node with
  | none => ((m.gate (q.node.val - 24)).segment, (m.gate (q.node.val - 24)).offset)
  | some j =>
    let r := m.switch j
    match q.kind with
    | .exitStraight => ((m.segment r.home).next, r.exitStraightOffset)
    | .exitThrown => (r.thrown, r.exitThrownOffset)
    | .entry | .gate => (r.home, r.entryOffset)

/-- MAP's resolution of a sensor: its segment and offset when it exists, NO_SENSOR (`none`) when the kind
does not belong to the node or the record is not used (R10). -/
def TrackMap.resolve (m : TrackMap) (q : Sensor) : Option (Nat × Nat) :=
  if kindBelongs q.node q.kind && m.polled q.node then some (m.sensorPlace q) else none

/-- The approach distance of a switch (R5). -/
def TrackMap.approach (m : TrackMap) (j : SwitchNo) : Int :=
  (m.segment (m.switch j).home).length - (m.switch j).entryOffset

/-- The switches of j's conflict group: j, and every other used switch whose group field equals j's when
that field is not NONE (R6, R90). -/
def TrackMap.group (m : TrackMap) (j : SwitchNo) : List SwitchNo :=
  switchNos.filter fun i =>
    i == j || ((m.switch j).group.isSome && (m.switch i).used && (m.switch i).group == (m.switch j).group)

/-! ### Map walks (R11, R12) -/

/-- Steps 4 to 6 of R11 from the segment `x` just reached, with `sum` the distance to its start. `fuel`
counts the visits left of R12. -/
def TrackMap.walkOn (m : TrackMap) (target : Nat) (fuel : Nat) (x : Nat) (sum : Int) : Option Int :=
  match fuel with
  | 0 => none
  | fuel + 1 =>
    if !(m.segment x).used then none
    else if x = target then some sum
    else m.walkOn target fuel (m.segment x).next (sum + (m.segment x).length)

/-- The distance of a walk from (start, offset) to the start of the target segment, or unreachable
(`none`): R11, with the 64 visits of R12, the start being the first of them. -/
def TrackMap.walk (m : TrackMap) (start offset target : Nat) : Option Int :=
  let a := m.segment start
  if !a.used || a.length ≤ offset then none
  else if start = target then some (-(offset : Int))
  else m.walkOn target 63 a.next ((a.length : Int) - offset)

/-- The walk from a sensor's position; a sensor that does not exist reaches nothing (R10, R13). -/
def TrackMap.walkFrom (m : TrackMap) (q : Sensor) (target : Nat) : Option Int :=
  match m.resolve q with
  | some (start, offset) => m.walk start offset target
  | none => none

/-! ### Validation (R14) -/

/-- The record a failed validation reports (R14). -/
inductive MapRecord where
  | whole | segment (n : Nat) | switch (n : Nat) | gate (n : Nat) | pairingGate (n : Nat)
  deriving DecidableEq, Repr

/-- Why a validation fails, in the order of R14's table. -/
inductive MapReason where
  | empty | nextUnused | sameLane | offset | sharedHome | gateSegment | pairingGate
  deriving DecidableEq, Repr

/-- The first failed check of a validation (R14). -/
structure MapFault where
  record : MapRecord
  reason : MapReason
  deriving DecidableEq, Repr

/-- Check 2 on segment `n` (R14). -/
def TrackMap.checkSegment (m : TrackMap) (n : Nat) : Option MapFault :=
  let r := m.segment n
  if r.used && !(m.segment r.next).used then some { record := .segment n, reason := .nextUnused } else none

/-- Checks 3a to 3d on switch `j` (R14). -/
def TrackMap.checkSwitch (m : TrackMap) (j : SwitchNo) : Option MapFault :=
  let r := m.switch j
  let home := m.segment r.home
  let fails (x : MapReason) : Option MapFault := some { record := .switch j.val, reason := x }
  if !r.used then none
  else if !home.used || !(m.segment home.next).used || !(m.segment r.thrown).used then fails .nextUnused
  else if home.lane = (m.segment r.thrown).lane then fails .sameLane
  else if home.length ≤ r.entryOffset || (m.segment home.next).length ≤ r.exitStraightOffset ||
      (m.segment r.thrown).length ≤ r.exitThrownOffset then fails .offset
  else if switchNos.any fun i => i.val < j.val && (m.switch i).used && (m.switch i).home == r.home then
    fails .sharedHome
  else none

/-- Checks 4a and 4b on gate `n` (R14). -/
def TrackMap.checkGate (m : TrackMap) (n : Nat) : Option MapFault :=
  let r := m.gate n
  if !r.used then none
  else if !(m.segment r.segment).used then some { record := .gate n, reason := .gateSegment }
  else if (m.segment r.segment).length ≤ r.offset then some { record := .gate n, reason := .offset }
  else none

/-- Check 5 on the pairing-gate setting (R14). -/
def TrackMap.checkPairingGate (m : TrackMap) : Option MapFault :=
  match m.pairingGate with
  | some g => if (m.gate g).used then none else some { record := .pairingGate g, reason := .pairingGate }
  | none => none

/-- Validation: the first check that fails, in the order of R14; `none` when the map is valid. -/
def TrackMap.validate (m : TrackMap) : Option MapFault :=
  if !(m.segments.toList.any Segment.used) then some { record := .whole, reason := .empty }
  else
    (((List.range 64).findSome? m.checkSegment).or (switchNos.findSome? m.checkSwitch)).or
      (((List.range 16).findSome? m.checkGate).or m.checkPairingGate)

/-- A validation taken: map-valid is written from its result, and nothing else (R14, R15). -/
def runValidation (s : State) : State := { s with mapValid := s.map.validate.isNone }

/-! ### Map writes (R16, R17) -/

/-- A car's fix set to NONE, which cancels its age expiry (R17, R26). DEDUCED for the stale mark, which stays
(log entry 22). -/
def Car.clearFix (c : Car) : Car := { c with fix := none, ageExpiry := none }

/-- The two effects of every accepted map write: map-valid is cleared and every car's fix becomes NONE
(R17). -/
def mapWriteEffects (s : State) : State :=
  { s with mapValid := false, cars := updateAll s.cars fun _ => Car.clearFix }

end Sys2Proof.Machine
end

