-- ==== Sys2Proof/Machine/Cars.lean ====
section
/-! DEFINITION. CAR: fixes, detections, the speed correction and estimator, and intents (Chapter 2). -/

namespace Sys2Proof.Machine

/-- A profile's fields lie in the ranges of R20, as WRITE PROFILE checks them (R21). -/
def Profile.inRange (p : Profile) : Bool :=
  500 ≤ p.vmax && p.vmax ≤ 8000 && 1 ≤ p.response && p.response ≤ 16 && 60 ≤ p.length && p.length ≤ 300

/-! ### Fixes (R24 to R26) -/

/-- The fix is stale: not NONE, and marked or more than 50,000 tu old (R25). DESIGN CHOICE for a fix past that age
whose age expiry has not been taken: R25's age decides and it is stale, where R26 calls the fix of a detection
taken before the expiry not stale (log entry 37). -/
def Car.fixStale (c : Car) (clock : Time) : Bool :=
  match c.fix with
  | some f => c.stale || decide (50000 < elapsed clock f.time)
  | none => false

/-- A new fix: the stale mark clears and the age expiry becomes the new fix's own (R26, R27). -/
def Car.setFix (c : Car) (q : Sensor) (t : Time) : Car :=
  { c with fix := some { sensor := q, time := t }, stale := false, ageExpiry := some (later t 50001) }

/-! ### Taking a detection (R27 to R31) -/

/-- The distance from the previous fix's sensor `p` to the new sensor `q` (R29): the entry-to-thrown-exit
distance of one switch, or else the map walk plus q's offset. -/
def TrackMap.fixDistance (m : TrackMap) (p q : Sensor) : Option Int :=
  match nodeSwitch q.node with
  | some j =>
    if q.kind = .exitThrown ∧ p.kind = .entry ∧ p.node = q.node then
      some (m.approach j + (m.switch j).exitThrownOffset)
    else (m.walkFrom p (m.sensorPlace q).1).map (· + (m.sensorPlace q).2)
  | none => (m.walkFrom p (m.sensorPlace q).1).map (· + (m.sensorPlace q).2)

/-- How CAR takes a detection: the three cases of R27, the corrected one with D and E, the refix with its
reason. -/
inductive DetectionCase where
  | sameSensor | corrected (distance elapsed : Int) | refix (reason : RefixReason)
  deriving DecidableEq, Repr

/-- The case that applies to a detection of a car at sensor `q` with timestamp `t` (R27, R31). -/
def detectionCase (m : TrackMap) (clock : Time) (c : Car) (q : Sensor) (t : Time) : DetectionCase :=
  match c.fix with
  | none => .refix .noFix
  | some p =>
    if p.sensor = q then .sameSensor
    else if c.fixStale clock then .refix .stale
    else if signedElapsed t p.time < 1 then .refix .time
    else
      match m.fixDistance p.sensor q with
      | none => .refix .unreachable
      | some d => if d ≤ 0 then .refix .distance else .corrected d (signedElapsed t p.time)

/-- The measured speed, narrowed to 8,000 (R30 step 1). -/
def measuredSpeed (distance elapsed : Int) : Nat := (min (distance * 10000 / elapsed) 8000).toNat

/-- The corrected estimate: a quarter of the old and three quarters of the measurement, rounded, limited to
8,000 (R30 step 2). -/
def correctedSpeed (old measured : Nat) : Nat := min ((old + 3 * measured + 2) / 4) 8000

/-- CAR takes a detection of car `k` at sensor `q` with timestamp `t` (R27): the estimate is corrected, or
the refix is counted and REFIX raised; in every case the fix becomes (q, t). -/
def takeDetection (k : CarNo) (q : Sensor) (t : Time) (s : State) : State :=
  match detectionCase s.map s.clock s.cars[k] q t with
  | .sameSensor => s.modifyCar k fun c => c.setFix q t
  | .corrected d e =>
    s.modifyCar k fun c => { c.setFix q t with speed := correctedSpeed c.speed (measuredSpeed d e) }
  | .refix r =>
    raise (.refix k q r) (s.modifyCar k fun c => { c.setFix q t with refixes := bump 255 c.refixes })

/-! ### The speed estimator (R33 to R35) -/

/-- The speed a car settles at with a step (R34 step 1). -/
def targetSpeed (vmax step : Nat) : Nat := vmax * step / 63

/-- One estimator step (R34). -/
def estimate (vmax response step speed : Nat) : Nat :=
  let delta : Int := (targetSpeed vmax step : Int) - speed
  let adj := (delta * response).tdiv 16
  let adj := if adj = 0 then delta.sign else adj
  (speed + adj).toNat

/-- CAR takes a published step for a car: the last step is written, and an enabled car's estimator runs
(R33, R38, R156). -/
def Car.takeStep (c : Car) (step : Nat) : Car :=
  { c with
    lastStep := step
    speed := if c.profile.enabled then estimate c.profile.vmax c.profile.response step c.speed else c.speed }

/-! ### Intents (R36, R37) -/

/-- An arm request from handset `h` for car `c`: taken in RUN while the binding names the handset, and
then armed or armed again for the intent hold; otherwise discarded (R36). -/
def armRequest (h : HandsetNo) (c : CarNo) (s : State) : State :=
  if s.race = .run ∧ s.cars[c].binding = some h then
    s.modifyCar c fun r => { r with intent := some (later s.clock (s.limits.intentHold * 100)) }
  else s

/-- Every car's intent set to NONE, silently (R37, R165, R166). -/
def clearIntents (s : State) : State := s.modifyCars fun c => { c with intent := none }

/-- The car part of a warm restart: intents NONE, estimates 0, every fix kept and marked stale (R41). -/
def Car.warmRestart (c : Car) : Car :=
  { c with intent := none, speed := 0, stale := if c.fix.isSome then true else c.stale }

end Sys2Proof.Machine
end

