-- ==== Sys2Proof/Machine/FrameBuilding.lean ====
section
/-! DEFINITION. FRB: the cycle and the composing of frames (Chapter 8). -/

namespace Sys2Proof.Machine

/-- The cycle length in quarters of a tu: 7,200 + 25 × trim µs is 288 + trim quarters of 25 µs (R151). -/
def cycleQuarters (trim : Nat) : Nat := 288 + trim

/-- The published step of a car, by the first row of R154's table that applies. -/
def publishedStep (s : State) (c : CarNo) : Nat :=
  let r := s.cars[c]
  if !r.profile.enabled then 0
  else
    let driven : Nat := match r.binding with
      | some h => s.handsets[h].step
      | none => if r.profile.pace then s.limits.paceStep else 0
    match s.race with
    | .setup | .halt => 0
    | .run => driven
    | .caution => min driven s.limits.cautionStep

/-- A car's word (R155): STEP, BRAKE, INTENT, CAUTION and ENABLED. -/
def carWord (s : State) (c : CarNo) : BitVec 16 :=
  let r := s.cars[c]
  let step := publishedStep s c
  let bit (b : Bool) : BitVec 1 := BitVec.ofBool (r.profile.enabled && b)
  (0 : BitVec 6) ++ bit true ++ bit (s.race == .caution) ++ bit r.intent.isSome ++ bit (step == 0) ++
    BitVec.ofNat 6 step

/-- The frame composed at a cycle end (R153 stage 1). -/
def composeFrame (s : State) : CarFrame :=
  { seq := s.frames.seq + 1, race := s.race, words := Vector.ofFn fun c => carWord s c }

/-- The missed-frame count after stage 2 of R153. -/
def FrameBuilder.countMiss (f : FrameBuilder) : Nat :=
  if f.published.isSome && !f.fetched then bump 65535 f.missed else f.missed

/-- Stages 1 to 4 of R153 in FRB, the next cycle starting at the end of this one with the trim as it stands
(R151, R152). -/
def FrameBuilder.publish (f : FrameBuilder) (x : CarFrame) : FrameBuilder :=
  { f with
    cycleEnd := f.cycleEnd.plus (cycleQuarters f.trim)
    seq := x.seq
    published := some x
    fetched := false
    missed := f.countMiss
    framePending := true }

/-- A cycle end taken: the frame is published and its steps are handed to CAR (R153, R156). -/
def publishFrame (s : State) : State :=
  { s with
    frames := s.frames.publish (composeFrame s)
    cars := updateAll s.cars fun c r => r.takeStep (publishedStep s c) }

end Sys2Proof.Machine
end

