-- ==== Sys2Proof/Machine/Reset.lean ====
section
/-! DEFINITION. The power-on reset (R173, R174, R202). -/

namespace Sys2Proof.Machine

/-- The straps sampled at a reset give each port its attention drive (R176, R184). -/
def resetPorts (x : Straps) : PerPort PortState :=
  { base := PortState.reset x.base, console := PortState.reset x.console, radio := PortState.reset x.radio }

/-- A power-on reset with the straps given (R173): everything in flight ends, every pending expiry goes with
the state that held it, every block takes its power-on values, and with the LOAD strap high SSI is LOADING
(R202). The settings memory is outside the part and keeps its image. DESIGN CHOICE for what is kept (log
entries 16 and 17). -/
def powerOn (x : Straps) (s : State) : State :=
  { State.reset with
    pending := s.pending
    picks := s.picks
    straps := x
    ports := resetPorts x
    store := if x.load then .loading else .idle
    memory := s.memory }

end Sys2Proof.Machine
end

