-- ==== Sys2Proof/Machine/Pairing.lean ====
section
/-! DEFINITION. PRU: the pairing queue, seeks and bindings (Chapter 4). -/

namespace Sys2Proof.Machine

/-- SSI is SAVING or LOADING. -/
def State.storeBusy (s : State) : Bool := s.store != .idle

/-- The car a pairing state names when BOUND (R62). -/
def PairingState.car (x : PairingState) : Option CarNo :=
  match x with
  | .bound c => some c
  | .idle | .seeking => none

/-- A handset's pairing state set. -/
def setPairing (h : HandsetNo) (x : PairingState) (s : State) : State :=
  s.modifyHandset h fun r => { r with pairing := x }

/-- A handset leaves the queue from any position and the entries behind it close up; its seek timer, which
runs from its entry's join time, is cancelled with the entry (R63, R64). -/
def leaveQueue (h : HandsetNo) (s : State) : State :=
  { s with seeks := s.seeks.filter fun e => e.handset != h }

/-- Handset `h` becomes BOUND with car `c`, in both records together, and BOUND is raised (R62, R71, R74). -/
def makeBinding (h : HandsetNo) (c : CarNo) (source : BindSource) (s : State) : State :=
  raise (.bound h c source)
    ((setPairing h (.bound c) s).modifyCar c fun r => { r with binding := some h })

/-- PRU dissolves the binding of handset `h` and car `c` with a cause: the handset IDLE, the car unbound,
its intent NONE, UNBOUND raised (R68). -/
def dissolve (h : HandsetNo) (c : CarNo) (cause : UnbindCause) (s : State) : State :=
  raise (.unbound h (some c) cause)
    ((setPairing h .idle s).modifyCar c fun r => { r with binding := none, intent := none })

/-- Handset `h` joins the tail of the queue, becomes SEEKING and its seek timer starts; SEEK_START gives
its position (R66 steps 2 and 3). -/
def joinQueue (h : HandsetNo) (s : State) : State :=
  let s := setPairing h .seeking s
  let s := { s with seeks := s.seeks ++ [{ handset := h, joined := s.clock }] }
  raise (.seekStart h s.seeks.length) s

/-- Why a seek request is refused, by the first test of R65 that applies. -/
def seekRefusal (h : HandsetNo) (s : State) : Option SeekRefusal :=
  if s.handsets[h].pairing = .seeking then some .alreadySeeking
  else if 4 ≤ s.seeks.length then some .queueFull
  else if s.handsets[h].pairing.car.isSome && s.storeBusy then some .storeBusy
  else none

/-- A seek request for handset `h`: refused by R65, or taken by R66, dissolving its binding first. -/
def seekRequest (h : HandsetNo) (s : State) : State :=
  match seekRefusal h s with
  | some reason => raise (.seekRefused h s.handsets[h].pairing.car reason) s
  | none =>
    match s.handsets[h].pairing with
    | .bound c => joinQueue h (dissolve h c .reseek s)
    | .idle | .seeking => joinQueue h s

/-- A pairing-gate detection of car `c`: with a seeking handset waiting, the car unbound and SSI IDLE, the
head handset leaves the queue and is bound (R71); otherwise nothing (R71, R72). -/
def pairingGateDetection (c : CarNo) (s : State) : State :=
  match s.seeks with
  | [] => s
  | e :: _ =>
    if s.cars[c].binding.isNone && !s.storeBusy then
      makeBinding e.handset c .gate (leaveQueue e.handset s)
    else s

end Sys2Proof.Machine
end

