-- ==== Sys2Proof/Machine/Handsets.lean ====
section
/-! DEFINITION. HSU: presence, steps, buttons, hold timers and the wired scanner (Chapter 3). -/

namespace Sys2Proof.Machine

/-- A wired handset, 0–7 (R42). -/
def isWired (h : HandsetNo) : Bool := h.val < 8

/-- The largest input value of a handset's source domain (R42). -/
def sourceMax (h : HandsetNo) : Nat := if isWired h then 4095 else 255

/-- A calibration that WRITE CALIBRATION accepts for the handset (R52). -/
def Calibration.inRange (k : Calibration) (h : HandsetNo) : Bool :=
  k.zero ≤ sourceMax h && k.full ≤ sourceMax h && k.deadband ≤ sourceMax h &&
    sourceMax h / 16 ≤ max k.full k.zero - min k.full k.zero && k.deadband ≤ sourceMax h / 8

/-- The step of an input that lies `x` beyond the zero point toward a full point `full` beyond it, with a
deadband: the three tests of R53 with zero point 0. -/
def travelStep (x full deadband : Int) : Nat :=
  if x ≤ deadband then 0
  else if full ≤ x then 63
  else ((x - deadband) * 63 / (full - deadband)).toNat

/-- The step derived from an input value; a full point below the zero point is mirrored (R53). -/
def deriveStep (k : Calibration) (x : Nat) : Nat :=
  if k.zero < k.full then travelStep (x - k.zero) (k.full - k.zero) k.deadband
  else travelStep (k.zero - x) (k.zero - k.full) k.deadband

/-- A handset set ABSENT: step 0, button released, previous sample none, count 0, hold timer stopped without
expiring (R45, R47). -/
def Handset.makeAbsent (r : Handset) : Handset :=
  { r with presence := .absent, presenceCount := 0, step := 0, button := false, prevSample := none,
           holdTimer := none }

/-- Stages 2 and 3 of R54: the step takes a new value, and one above 0 stops a running hold timer. -/
def Handset.takeStep (r : Handset) (step : Nat) : Handset :=
  { r with step := step, holdTimer := if 0 < step then none else r.holdTimer }

/-- Stage 4 of R54: the button of handset `h` takes a level. A press edge starts the hold timer when the
step is 0 and sends an arm request when the handset is BOUND (R56, R58); a release edge stops the hold
timer; no change is no edge. -/
def takeButton (h : HandsetNo) (level : Bool) (s : State) : State :=
  let r := s.handsets[h]
  if level = r.button then s
  else if level then
    let s := s.modifyHandset h fun r =>
      { r with button := true, holdTimer := if r.step = 0 then some s.clock else r.holdTimer }
    match r.pairing with
    | .bound c => armRequest h c s
    | .idle | .seeking => s
  else s.modifyHandset h fun r => { r with button := false, holdTimer := none }

/-- Stage 4 for a wired handset: the debounced level changes when this sample equals the previous one and
differs from the level; this sample then becomes the previous one (R48). -/
def debounceButton (h : HandsetNo) (sample : Bool) (s : State) : State :=
  let s' := if s.handsets[h].prevSample = some sample then takeButton h sample s else s
  s'.modifyHandset h fun r => { r with prevSample := some sample }

/-- A round result of a wired handset: R47's table, then the stages of R54. -/
def takeWiredResult (h : HandsetNo) (raw : Nat) (sample : Bool) (s : State) : State :=
  let s := s.modifyHandset h fun r => { r with lastSample := s.clock }
  let r := s.handsets[h]
  match r.presence with
  | .active =>
    if 64 ≤ raw then
      debounceButton h sample (s.modifyHandset h fun r =>
        { r.takeStep (deriveStep r.calibration raw) with presenceCount := 0 })
    else if r.presenceCount + 1 < 3 then
      debounceButton h sample (s.modifyHandset h fun r => { r with presenceCount := r.presenceCount + 1 })
    else
      raise (.handsetAbsent h r.pairing.car .lowInput) (s.modifyHandset h Handset.makeAbsent)
  | .absent | .lost =>
    if raw < 64 then s.modifyHandset h fun r => { r with presenceCount := 0 }
    else if r.presenceCount + 1 < 3 then
      s.modifyHandset h fun r => { r with presenceCount := r.presenceCount + 1 }
    else
      raise (.handsetActive h r.pairing.car raw) (s.modifyHandset h fun r =>
        { r.takeStep (deriveStep r.calibration raw) with
          presence := .active, presenceCount := 0, prevSample := some sample })

/-- A channel's round result completes: the latch takes the raw value and FRESH is set, whatever the
presence (R44), and the handset takes the result. -/
def takeRoundResult (ch : Channel) (raw : BitVec 12) (sample : Bool) (s : State) : State :=
  let s := { s with scanner := { s.scanner with
    latches := update s.scanner.latches ch fun _ => { raw := raw, fresh := true } } }
  takeWiredResult (channelHandset ch) raw.toNat sample s

/-- An accepted sample for radio handset `h` (R50). -/
def takeSample (h : HandsetNo) (throttle : Nat) (pressed : Bool) (s : State) : State :=
  let s := s.modifyHandset h fun r =>
    { r with lastSample := s.clock, holdEnd := some (later s.clock 2500),
             lostTime := some (later s.clock 5000) }
  let r := s.handsets[h]
  let s := if r.presence = .active then s
    else raise (.handsetActive h r.pairing.car throttle)
      (s.modifyHandset h fun r => { r with presence := .active })
  takeButton h pressed (s.modifyHandset h fun r => r.takeStep (deriveStep r.calibration throttle))

/-! ### The scanner's settings (R43 to R45) -/

/-- The channels of a scan set: 0–1, 0–3 or 0–7 (R43). -/
def scanChannels (setCode : Nat) : List Channel :=
  (List.finRange 8).filter fun ch => ch.val < 2 ^ (setCode + 1)

/-- The interval of a code: 10, 20, 40 or 80 tu (R43). -/
def scanInterval (code : Nat) : Nat := 10 * 2 ^ code

/-- Steps 1 and 2 of R45: any round in flight is aborted, the codes are stored, and the interval timer is
restarted with the new interval. -/
def restartScanner (setCode intervalCode : Nat) (s : State) : State :=
  { s with scanner := { s.scanner with
      setCode := setCode, intervalCode := intervalCode, round := [],
      nextRound := later s.clock (scanInterval intervalCode) } }

/-- Step 3 of R45 for one wired handset outside the new set, from SET SCAN: set ABSENT, and HS_ABSENT raised
with cause SCAN_SET if it was ACTIVE. -/
def leaveScanSet (h : HandsetNo) (s : State) : State :=
  let r := s.handsets[h]
  let s' := s.modifyHandset h Handset.makeAbsent
  if r.presence = .active then raise (.handsetAbsent h r.pairing.car .scanSet) s' else s'

/-- The wired handsets whose channels lie outside a scan set, ascending. -/
def outsideScanSet (setCode : Nat) : List HandsetNo :=
  handsetNos.filter fun h => isWired h && decide (2 ^ (setCode + 1) ≤ h.val)

end Sys2Proof.Machine
end

