-- ==== Sys2Proof/Machine/Switches.lean ====
section
/-! DEFINITION. SWC's runtime records and LCA's reservation lists, as far as each acts on the other:
commands, throw and return requests, reports, revocations, faults and passages (Chapters 5 and 6). -/

namespace Sys2Proof.Machine

/-! ### The urgent list (R144) -/

/-- A switch joins the tail of the urgent list, or keeps its place if it is on it (R112, R144). -/
def joinUrgent (j : SwitchNo) (s : State) : State :=
  if j ∈ s.loop.urgent then s else s.setUrgent (s.loop.urgent ++ [j])

/-- A switch leaves the urgent list from its place (R144). -/
def leaveUrgent (j : SwitchNo) (s : State) : State := s.setUrgent (s.loop.urgent.filter (· != j))

/-! ### Commands, states and requests (R112 to R114) -/

/-- SWC commands a position: it is set, the deadline becomes the race clock plus the actuation time plus
200 tu, and the node is placed on the urgent list (R112). -/
def commandPosition (j : SwitchNo) (x : Position) (s : State) : State :=
  joinUrgent j (s.modifySwitch j fun r =>
    { r with commanded := x, deadline := some (later s.clock ((s.map.switch j).actuation + 200)) })

/-- A switch's state changes: the throw count rises on entering THROWING and the fault count on entering
FAULT (R110), and SW_STATE is raised with the cause (R127). -/
def changeState (j : SwitchNo) (x : SwitchState) (cause : SwitchCause) (s : State) : State :=
  let r := s.switches[j]
  raise (.switchState j r.state x cause r.confirmed) (s.modifySwitch j fun r =>
    { r with
      state := x
      throwCount := if x = .throwing then bump 65535 r.throwCount else r.throwCount
      faultCount := if x = .fault then bump 255 r.faultCount else r.faultCount })

/-- SWC's answer to a throw request (R113). -/
def throwRequest (j : SwitchNo) (s : State) : State :=
  match s.switches[j].state with
  | .straight | .returning => changeState j .throwing .throwOrder (commandPosition j .thrown s)
  | .throwing | .thrown | .locked | .fault => s

/-- SWC's answer to a return request (R114). -/
def returnRequest (j : SwitchNo) (s : State) : State :=
  match s.switches[j].state with
  | .thrown | .throwing => changeState j .returning .returnOrder (commandPosition j .straight s)
  | .straight | .returning | .locked | .fault => s

/-! ### Removals from reservation lists (R101 to R105) -/

/-- The return request that LCA sends when a removal has left a list empty (R101). DESIGN CHOICE: SWC
answers it at once, before anything else that the step has still to do (log entry 38). -/
def returnIfEmpty (j : SwitchNo) (s : State) : State :=
  if s.lists[j].isEmpty then returnRequest j s else s

/-- Car `c` holds an entry in a list. -/
def holdsEntry (l : List Reservation) (c : CarNo) : Bool := l.any fun e => e.car == c

/-- A list without car `c`'s entry; the others keep their order (R99). -/
def withoutCar (l : List Reservation) (c : CarNo) : List Reservation := l.filter fun e => e.car != c

/-- LCA revokes switch j's list with a cause: REVOKED for every entry in list order, then the return
request for the list left empty; an empty list raises and sends nothing (R104, R105). DESIGN CHOICE: SWC
answers the request before the next list is taken (log entry 38). -/
def revokeList (cause : RevokeCause) (j : SwitchNo) (s : State) : State :=
  match s.lists[j] with
  | [] => s
  | e :: es =>
    returnRequest j
      ((e :: es).foldl (fun s e => raise (.revoked e.car j cause) s) (s.setList j []))

/-- LCA revokes every list with cause HALT, in ascending switch number (R105). -/
def revokeAllLists (s : State) : State := switchNos.foldl (fun s j => revokeList .halt j s) s

/-- LCA takes a passage of car `k` at switch `j` (R102): the car's entry is removed, with MISROUTE by the
straight exit, or CARRIED is raised for a car without an entry at the thrown exit. -/
def takePassage (k : CarNo) (j : SwitchNo) (thrownExit : Bool) (s : State) : State :=
  if holdsEntry s.lists[j] k then
    let s := s.setList j (withoutCar s.lists[j] k)
    if thrownExit then returnIfEmpty j s
    else
      let s := s.modifyCar k fun c => { c with misroutes := bump 255 c.misroutes }
      returnIfEmpty j (raise (.misroute k j s.cars[k].misroutes) s)
  else if thrownExit then raise (.carried k j s.switches[j].state) s
  else s

/-- SWC takes an exit detection as a passage: it counts it by the exit and hands it to LCA (R120). -/
def passage (k : CarNo) (j : SwitchNo) (thrownExit : Bool) (s : State) : State :=
  takePassage k j thrownExit (s.modifySwitch j fun r =>
    if thrownExit then { r with thrownPassages := bump 65535 r.thrownPassages }
    else { r with straightPassages := bump 65535 r.straightPassages })

/-! ### Faults and reports (R115 to R119) -/

/-- A switch enters FAULT (R118): deadline cancelled, commanded STRAIGHT, node off the urgent list,
SW_STATE raised, list revoked. A switch already in FAULT stays as it is. -/
def enterFault (j : SwitchNo) (cause : SwitchCause) (s : State) : State :=
  if s.switches[j].state = .fault then s
  else
    let s := s.modifySwitch j fun r => { r with deadline := none, commanded := .straight }
    revokeList .fault j (changeState j .fault cause (leaveUrgent j s))

/-- The confirmed position that a report sets: UNKNOWN for MOVING (R115). -/
def confirmedBy (x : ReportedPosition) : Confirmed :=
  match x with
  | .straight => .straight
  | .thrown => .thrown
  | .moving | .invalid => .unknown

/-- A pending deadline cancelled. -/
def cancelDeadline (j : SwitchNo) (s : State) : State := s.modifySwitch j fun r => { r with deadline := none }

/-- SWC takes a position report: the confirmed position is set (R115), and the report acts by the switch's
state (R116). -/
def positionReport (j : SwitchNo) (x : ReportedPosition) (s : State) : State :=
  let s := s.modifySwitch j fun r => { r with confirmed := confirmedBy x }
  match s.switches[j].state with
  | .straight =>
    if x = .straight then s else changeState j .returning .slip (commandPosition j .straight s)
  | .throwing => if x = .thrown then changeState j .thrown .confirm (cancelDeadline j s) else s
  | .thrown => if x = .thrown then s else changeState j .throwing .slip (commandPosition j .thrown s)
  | .returning => if x = .straight then changeState j .straight .confirm (cancelDeadline j s) else s
  | .locked =>
    if x = .straight then cancelDeadline j s
    else if s.switches[j].deadline = none then commandPosition j .straight s
    else s
  | .fault => s

end Sys2Proof.Machine
end

