-- ==== Sys2Proof/Machine/Settlement.lean ====
section
/-! DEFINITION. LCA's settlement of one entry detection (Chapter 5). All figures are integers in tu from the
reference time; the manual's 48-bit accumulator never overflows (R88), so exact integers stand for it. DEDUCED (log entry 24). -/

namespace Sys2Proof.Machine

/-! ### Windows (R88 to R95) -/

/-- A window of a car before narrowing: when its front enters the zone and its tail leaves it. -/
structure Window where
  car : CarNo
  entry : Int
  exit : Int
  deriving DecidableEq, Repr

/-- A window value narrowed to the range 0 to the horizon (R88). -/
def narrow (x : Int) : Nat := if 65535 < x then 65535 else x.toNat

/-- A window value above the horizon before narrowing, which sets S (R88). -/
def Window.overHorizon (w : Window) : Bool := decide (65535 < w.entry) || decide (65535 < w.exit)

/-- Quotient rounded up, for a positive divisor. -/
def ceilingDiv (a b : Int) : Int := -((-a) / b)

/-- The time in tu to run `mm` at `speed` mm/s, rounded down (R89, R92). -/
def entryTime (mm : Int) (speed : Nat) : Int := mm * 10000 / speed

/-- The time in tu to run `mm` at `speed` mm/s, rounded up (R89, R92). -/
def exitTime (mm : Int) (speed : Nat) : Int := ceilingDiv (mm * 10000) speed

/-- The requester's window at switch `j`, its speed raised to the floor of 50 mm/s (R89). -/
def requesterWindow (s : State) (j : SwitchNo) (k : CarNo) : Window :=
  let v := max s.cars[k].speed 50
  let d := s.map.approach j
  { car := k
    entry := entryTime d v
    exit := exitTime (d + (s.map.switch j).zoneLength + s.cars[k].profile.length) v }

/-- The tested entries: those of every list of j's group (R90). -/
def testedEntries (s : State) (j : SwitchNo) : List Reservation :=
  (s.map.group j).flatMap fun i => s.lists[i]

/-- A reservation entry's window from its absolute times (R94). -/
def entryWindow (tRef : Time) (e : Reservation) : Window :=
  { car := e.car, entry := signedElapsed e.entryAt tRef, exit := signedElapsed e.exitAt tRef }

/-- Car `m` meets conditions 1 to 3 of a traffic candidate (R90). -/
def isConsidered (s : State) (j : SwitchNo) (k m : CarNo) : Bool :=
  m != k && s.cars[m].profile.enabled && s.cars[m].fix.isSome && !holdsEntry (testedEntries s j) m

/-- Car `m` is placed as moving: its fix is fresh and its estimate at the floor or above (R91). -/
def isMoving (s : State) (m : CarNo) : Bool := !s.cars[m].fixStale s.clock && 50 ≤ s.cars[m].speed

/-- The elapsed time of a moving car, taken as 0 when its fix is later than the reference time (R91). -/
def fixElapsed (tRef fixTime : Time) : Nat :=
  if 50000 < elapsed tRef fixTime then 0 else elapsed tRef fixTime

/-- The remaining distance of car `m` from its projected front to the start of the merge zone, or `none`
when the walk is unreachable (R91). -/
def remaining (s : State) (j : SwitchNo) (tRef : Time) (m : CarNo) : Option Int :=
  match s.cars[m].fix with
  | none => none
  | some f =>
    let covered : Int :=
      if isMoving s m then ((fixElapsed tRef f.time * s.cars[m].speed / 10000 : Nat) : Int) else 0
    (s.map.walkFrom f.sensor (s.map.switch j).thrown).map (· - covered)

/-- The window of car `m` as traffic: R92 for a moving car, R93 for a STILL one; `none` when it is no
candidate. -/
def trafficWindow (s : State) (j : SwitchNo) (tRef : Time) (m : CarNo) : Option Window :=
  match remaining s j tRef m with
  | none => none
  | some rem =>
    let clear := rem + (s.map.switch j).zoneLength + s.cars[m].profile.length
    if isMoving s m then
      if clear ≤ 0 then none
      else some { car := m, entry := entryTime (max rem 0) s.cars[m].speed,
                  exit := exitTime clear s.cars[m].speed }
    else if rem ≤ 0 ∧ 0 < clear then some { car := m, entry := 0, exit := 65535 }
    else none

/-- Two windows conflict, after narrowing, under guard time `g` (R95). -/
def conflicts (g : Nat) (a b : Window) : Bool :=
  decide ((narrow a.entry : Int) - g < narrow b.exit) && decide (narrow b.entry < narrow a.exit + g)

/-! ### The tests and the verdict (R85, R86, R96, R97) -/

/-- Test 1 fails: the switch is in FAULT or LOCKED (R86). -/
def switchClosed (x : SwitchState) : Bool := x == .fault || x == .locked

/-- Test 2 fails: the switch is not THROWN and the requester arrives before a throw can complete (R86). -/
def arrivesLate (s : State) (x : SwitchState) (j : SwitchNo) (a : Window) : Bool :=
  x != .thrown && decide (narrow a.entry < (s.map.switch j).actuation)

/-- The cars placed as traffic candidates or passed over by their position: conditions 1 to 3 of R90. -/
def consideredCars (s : State) (j : SwitchNo) (k : CarNo) : List CarNo := carNos.filter (isConsidered s j k)

/-- The reservation windows of test 3 (R90, R94). -/
def reservationWindows (s : State) (j : SwitchNo) (tRef : Time) : List Window :=
  (testedEntries s j).map (entryWindow tRef)

/-- The traffic windows of test 4 (R90 to R93). -/
def trafficWindows (s : State) (j : SwitchNo) (k : CarNo) (tRef : Time) : List Window :=
  (consideredCars s j k).filterMap (trafficWindow s j tRef)

/-- The conflict set: bit n for a conflicting window of car n (R96). -/
def conflictSet (ws : List Window) : BitVec 12 :=
  ws.foldl (fun x w => x ||| BitVec.ofNat 12 (2 ^ w.car.val)) 0

/-- Window `w` comes before `v` in R96's choice of the first conflicting car: a smaller entry value, with
ties going to the lower car number. -/
def Window.before (w v : Window) : Bool :=
  decide (narrow w.entry < narrow v.entry) || (narrow w.entry == narrow v.entry && decide (w.car < v.car))

/-- The conflicting window that R96 names first. -/
def firstWindow (ws : List Window) : Option Window :=
  match ws with
  | [] => none
  | w :: ws => some (ws.foldl (fun v w => if w.before v then w else v) w)

/-- What tests 3 and 4 find: the windows they compute, the conflicting ones of each, and whether a stale car
was placed (R85, R91). -/
structure Findings where
  windows : List Window
  reserved : List Window
  traffic : List Window
  stalePlaced : Bool
  deriving DecidableEq, Repr

/-- Nothing tested: the findings when test 1 or test 2 fails (R85, R97). -/
def Findings.untested : Findings := { windows := [], reserved := [], traffic := [], stalePlaced := false }

/-- Tests 3 and 4, both evaluated in full (R85). -/
def runTests (s : State) (j : SwitchNo) (k : CarNo) (tRef : Time) (a : Window) : Findings :=
  let rs := reservationWindows s j tRef
  let ts := trafficWindows s j k tRef
  { windows := rs ++ ts
    reserved := rs.filter (conflicts s.limits.guardTime a)
    traffic := ts.filter (conflicts s.limits.guardTime a)
    stalePlaced := (consideredCars s j k).any fun m => s.cars[m].fixStale s.clock }

/-- The verdict of tests 1 to 5 in their order (R85), the switch's state being `sw`. -/
def decideVerdict (s : State) (sw : SwitchState) (j : SwitchNo) (a : Window) (x : Findings) : Verdict :=
  if switchClosed sw then .denySwitch
  else if arrivesLate s sw j a then .denyLate
  else if !x.reserved.isEmpty then .denyReserved
  else if !x.traffic.isEmpty then .denyTraffic
  else if 4 ≤ s.lists[j].length then .denyFull
  else .grant

/-- The verdict record of a settlement of car `k` at switch `j`, after superseding (R85, R96, R97). Tests 1
and 2 read the switch's state `sw` as SWC held it when the settlement was taken, before the return request
of its own superseding (R83, R86). -/
def settlementRecord (s : State) (sw : SwitchState) (j : SwitchNo) (k : CarNo) (tRef : Time) : VerdictRecord :=
  let a := requesterWindow s j k
  let x := if switchClosed sw || arrivesLate s sw j a then Findings.untested else runTests s j k tRef a
  let found := x.reserved ++ x.traffic
  let v := decideVerdict s sw j a x
  { car := k
    switch := j
    refTime := tRef
    verdict := v
    flagG := v == .grant
    flagC := !found.isEmpty
    flagL := v == .denyLate
    flagS := a.overHorizon || x.windows.any Window.overHorizon
    flagU := x.stalePlaced
    conflicts := conflictSet found
    firstConflict := (firstWindow found).map Window.car
    entry := narrow a.entry
    exit := narrow a.exit }

/-! ### Results of a settlement (R83, R84, R98, R100) -/

/-- Superseding at one switch: car k's entry is taken out of the list, REVOKED is raised, and a return
request follows when the list is left empty (R84). DESIGN CHOICE: SWC answers that request before the settlement
goes on, so its SW_STATE stands before VERDICT and SAT (log entry 38). -/
def supersedeAt (k : CarNo) (j : SwitchNo) (s : State) : State :=
  if holdsEntry s.lists[j] k then
    returnIfEmpty j (raise (.revoked k j .superseded) (s.setList j (withoutCar s.lists[j] k)))
  else s

/-- Superseding: any reservation that car k holds, at whatever switch, is removed (R84). -/
def supersede (k : CarNo) (s : State) : State := switchNos.foldl (fun s j => supersedeAt k j s) s

/-- The entry of a granted car (R99). -/
def grantedEntry (v : VerdictRecord) : Reservation :=
  { car := v.car
    entryAt := later v.refTime v.entry
    exitAt := later v.refTime v.exit
    grantedAt := v.refTime
    staleAt := later (later v.refTime v.exit) 20000 }

/-- The place of a new entry: after every entry whose offset from the reference time is at most a_e, before
the first whose offset is greater (R100). -/
def insertEntry (tRef : Time) (entry : Nat) (e : Reservation) (l : List Reservation) : List Reservation :=
  match l with
  | [] => [e]
  | x :: xs => if (entry : Int) < signedElapsed x.entryAt tRef then e :: x :: xs
    else x :: insertEntry tRef entry e xs

/-- The saturation report of a settlement that sets S: SAT_SEEN on every port, and a SAT event while SAT
events are enabled (R98, R197). -/
def saturationReport (v : VerdictRecord) (s : State) : State :=
  if v.flagS then
    let s := flagAllPorts (fun f => { f with satSeen := true }) s
    if s.limits.satEvents then raise (.sat v.car v.switch v.verdict) s else s
  else s

/-- On GRANT the entry is added to the switch's list and a throw request is sent (R100). DEDUCED: SWC answers the
request in the same step, so no arrival comes between the settlement and its throw request, where R113 and R126
speak of one that does (log entry 35). -/
def carryOutGrant (v : VerdictRecord) (s : State) : State :=
  if v.verdict = .grant then
    throwRequest v.switch
      (s.setList v.switch (insertEntry v.refTime v.entry (grantedEntry v) s.lists[v.switch]))
  else s

/-- The results of a settlement handed on in R83's order: verdict record and VERDICT event, saturation
report, grant. -/
def handOnVerdict (v : VerdictRecord) (s : State) : State :=
  let s := { s with verdicts := update s.verdicts v.switch fun _ => some v }
  carryOutGrant v (saturationReport v (raise (.verdict v) s))

/-- A settlement of car `k` at switch `j` with reference time `tRef` (R83): the switch's state is read as the
settlement is taken, then come superseding, the verdict and its results. -/
def settle (k : CarNo) (j : SwitchNo) (tRef : Time) (s : State) : State :=
  let u := supersede k s
  handOnVerdict (settlementRecord u s.switches[j].state j k tRef) u

/-- LCA takes an ENTRY detection in RUN: an ARMED intent is consumed and settled, and otherwise nothing is
started (R82). -/
def entryDetection (k : CarNo) (j : SwitchNo) (t : Time) (s : State) : State :=
  match s.cars[k].intent with
  | some _ => settle k j t (s.modifyCar k fun c => { c with intent := none })
  | none => s

end Sys2Proof.Machine
end

