-- ==== Sys2Proof/Machine/Loop.lean ====
section
/-! DEFINITION. SLC: nodes and the polled set, the poll arbiter, exchanges and the routing of detections
(Chapter 7). -/

namespace Sys2Proof.Machine

/-! ### The polled set (R132, R133) -/

/-- A node's record on entering the polled set: OK with its counts 0 (R133). -/
def NodeRecord.entered : NodeRecord :=
  { state := .ok, missCount := 0, goodCount := 0, exchanges := 0, misses := 0, lastAnswer := none,
    lastMiss := none }

/-- A node enters the polled set afresh (R133). -/
def nodeEnters (a : NodeNo) (s : State) : State := s.modifyNode a fun _ => NodeRecord.entered

/-- The exchange in flight is marked so that its outcome is discarded when its node leaves the polled set
(R133). -/
def Exchange.leaving (x : Exchange) (a : NodeNo) : Exchange := if x.node = a then { x with discard := true } else x

/-- A node leaves the polled set: UNPOLLED, its counts kept (R133). -/
def nodeLeaves (a : NodeNo) (s : State) : State :=
  let s := s.modifyNode a fun r => { r with state := .unpolled }
  { s with loop := { s.loop with exchange := s.loop.exchange.map (Exchange.leaving · a) } }

/-- A switch becomes used: its node enters the polled set, the state becomes RETURNING and the confirmed
position UNKNOWN, and STRAIGHT is commanded, without SW_STATE (R130, R133). -/
def switchBecomesUsed (j : SwitchNo) (s : State) : State :=
  commandPosition j .straight ((nodeEnters (switchNode j) s).modifySwitch j fun r =>
    { r with state := .returning, confirmed := .unknown })

/-- A switch becomes unused: its node leaves the polled set and the urgent list, and the record takes the
unused values, the counts kept (R110, R129, R130). -/
def switchBecomesUnused (j : SwitchNo) (s : State) : State :=
  leaveUrgent j ((nodeLeaves (switchNode j) s).modifySwitch j fun r =>
    { r with state := .straight, commanded := .straight, confirmed := .unknown, deadline := none })

/-- A switch's runtime record and node follow a change of its used field; without a change nothing moves
(R130, R133). -/
def followSwitchUse (before after : Bool) (j : SwitchNo) (s : State) : State :=
  if before = after then s else if after then switchBecomesUsed j s else switchBecomesUnused j s

/-- The node address of a gate: 24 plus its number (R7). -/
def gateNode (g : Fin 16) : NodeNo := ⟨g.val + 24, by omega⟩

/-- A gate's node follows a change of its used field (R133). -/
def followGateUse (before after : Bool) (g : Fin 16) (s : State) : State :=
  if before = after then s else if after then nodeEnters (gateNode g) s else nodeLeaves (gateNode g) s

/-! ### Polls and the arbiter (R134, R145, R146) -/

/-- The SET command for a commanded position (R134). -/
def setCommand (x : Position) : PollCommand :=
  match x with
  | .thrown => .setThrown
  | .straight => .setStraight

/-- The command that a poll of a node carries, by its place on the urgent list and SWC's commanded position
when the poll is made (R134). -/
def pollCommand (a : NodeNo) (s : State) : PollCommand :=
  match nodeSwitch a with
  | some j => if j ∈ s.loop.urgent then setCommand s.switches[j].commanded else .none
  | none => .none

/-- The node that a round exchange polls: the lowest polled address at or above the round pointer, or else
the lowest polled address (R146). -/
def roundNode (s : State) : Option NodeNo :=
  (nodeNos.find? fun a => decide (s.loop.pointer ≤ a) && s.map.polled a).or (nodeNos.find? s.map.polled)

/-- The round pointer after a round exchange with a node: the address plus 1, and 40 becomes 0 (R146). -/
def pointerAfter (a : NodeNo) : NodeNo := ⟨(a.val + 1) % 40, Nat.mod_lt _ (by decide)⟩

/-- A round exchange begins; with an empty polled set the loop is idle (R134, R145, R146). DEDUCED for the
counts of an idle loop (log entry 21). -/
def beginRound (s : State) : State :=
  match roundNode s with
  | some a => { s with loop := { s.loop with
      pointer := pointerAfter a, urgentRun := 0,
      exchange := some { node := a, command := pollCommand a s, urgent := false, replyBy := none, discard := false } } }
  | none => { s with loop := { s.loop with exchange := none } }

/-- The poll arbiter chooses the next exchange: an urgent exchange with the head of the urgent list while
fewer than two urgent exchanges have run in a row, and a round exchange otherwise (R145). -/
def arbitrate (s : State) : State :=
  match s.loop.urgent with
  | j :: _ =>
    if s.loop.urgentRun < 2 then
      { s with loop := { s.loop with
        urgentRun := s.loop.urgentRun + 1,
        exchange := some { node := switchNode j, command := pollCommand (switchNode j) s, urgent := true,
                           replyBy := none, discard := false } } }
    else beginRound s
  | [] => beginRound s

/-- The loop idle and a node in the polled set: the arbiter starts the next exchange (R134, R145). -/
def wakeLoop (s : State) : State :=
  if s.loop.exchange.isNone && nodeNos.any s.map.polled then arbitrate s else s

/-! ### The outcome of an exchange (R136 to R143) -/

/-- A reply to a poll of node `a` is malformed (R136). -/
def malformed (r : NodeReply) (a : NodeNo) : Bool :=
  !r.sound || r.address != a.val || decide (2 < r.detections.length) ||
    r.detections.any (fun d => !kindBelongs a d.kind) ||
    (if (nodeSwitch a).isSome then r.position.isNone || r.position == some .invalid else r.position.isSome)

/-- What a node's outcome raises (R137). -/
inductive NodeNews where
  | none | fault | recovered
  deriving DecidableEq, Repr

/-- A node record after an answered exchange, and what it raises (R137). -/
def NodeRecord.answered (r : NodeRecord) (now : Time) : NodeRecord × NodeNews :=
  let r := { r with exchanges := bump 65535 r.exchanges, lastAnswer := some now }
  match r.state with
  | .ok => ({ r with missCount := 0, goodCount := bump 255 r.goodCount }, .none)
  | .missing => ({ r with missCount := 0, goodCount := 1, state := .ok }, .none)
  | .fault =>
    if bump 255 r.goodCount < 4 then
      ({ r with missCount := 0, goodCount := bump 255 r.goodCount }, .none)
    else ({ r with missCount := 0, goodCount := 4, state := .ok }, .recovered)
  | .unpolled => (r, .none)

/-- A node record after a missed exchange, and what it raises (R137). -/
def NodeRecord.missed (r : NodeRecord) (now : Time) : NodeRecord × NodeNews :=
  let r := { r with exchanges := bump 65535 r.exchanges, misses := bump 65535 r.misses, lastMiss := some now }
  match r.state with
  | .ok => ({ r with missCount := 1, goodCount := 0, state := .missing }, .none)
  | .missing =>
    if bump 255 r.missCount < 3 then
      ({ r with missCount := bump 255 r.missCount, goodCount := 0 }, .none)
    else ({ r with missCount := 3, goodCount := 0, state := .fault }, .fault)
  | .fault => ({ r with missCount := bump 255 r.missCount, goodCount := 0 }, .none)
  | .unpolled => (r, .none)

/-- A node entering FAULT: NODE_FAULT is raised with its counts, and a switch node's switch is faulted
(R119, R138). -/
def nodeFaults (a : NodeNo) (s : State) : State :=
  let r := s.loop.nodes[a]
  let s := raise (.nodeFault a r.exchanges r.misses) s
  match nodeSwitch a with
  | some j => enterFault j .nodeFault s
  | none => s

/-- What a node's outcome tells the other blocks (R138). A node back in OK raises NODE_OK with the time of
its last miss and changes no switch. DESIGN CHOICE for a node without one (log entry 25). -/
def tellNews (a : NodeNo) (news : NodeNews) (s : State) : State :=
  match news with
  | .none => s
  | .fault => nodeFaults a s
  | .recovered => raise (.nodeOk a (s.loop.nodes[a].lastMiss.getD 0)) s

/-- Step 1 of R139 for an answered exchange. -/
def takeAnswer (a : NodeNo) (s : State) : State :=
  let x := s.loop.nodes[a].answered s.clock
  tellNews a x.2 (s.modifyNode a fun _ => x.1)

/-- Step 1 of R139 for a miss, the only step a miss has. -/
def takeMiss (a : NodeNo) (s : State) : State :=
  let x := s.loop.nodes[a].missed s.clock
  tellNews a x.2 (s.modifyNode a fun _ => x.1)

/-- The reported position equals a commanded one; MOVING never does (R139 step 3). -/
def reports (x : ReportedPosition) (c : Position) : Bool :=
  match x, c with
  | .straight, .straight | .thrown, .thrown => true
  | _, _ => false

/-- Steps 2 and 3 of R139: the position report, and then the node leaves the urgent list when it reports
the commanded position. -/
def takePosition (j : SwitchNo) (x : ReportedPosition) (s : State) : State :=
  let s := positionReport j x s
  if reports x s.switches[j].commanded then leaveUrgent j s else s

/-- The age of a record as SLC takes it, at most 1,000 (R135). -/
def ageTaken (d : Detection) : Nat := min d.age 1000

/-- The records of an answered reply, oldest first; equal ages keep the reply's order (R139 step 4). -/
def oldestFirst (ds : List Detection) : List Detection :=
  match ds with
  | [d, e] => if ageTaken d < ageTaken e then [e, d] else [d, e]
  | ds => ds

/-- A detection that CAR has taken is handed on by its kind (R142): to PRU at the pairing gate, to LCA in
RUN, to SWC as a passage. -/
def handOn (k : CarNo) (q : Sensor) (t : Time) (s : State) : State :=
  match q.kind, nodeSwitch q.node with
  | .entry, some j => if s.race = .run then entryDetection k j t s else s
  | .exitStraight, some j => passage k j false s
  | .exitThrown, some j => passage k j true s
  | .gate, none => if s.map.pairingGate = some (q.node.val - 24) then pairingGateDetection k s else s
  | _, _ => s

/-- One detection record of node `a`, checked by R141 and routed by R142 with the timestamp of R140. -/
def takeRecord (a : NodeNo) (s : State) (d : Detection) : State :=
  if h : d.carId < 12 then
    let k : CarNo := ⟨d.carId, h⟩
    let q : Sensor := { node := a, kind := d.kind }
    let t := s.clock - BitVec.ofNat 32 (ageTaken d)
    if s.cars[k].profile.enabled then handOn k q t (takeDetection k q t s)
    else raise (.badCar a d.carId d.kind .disabled (ageTaken d)) s
  else raise (.badCar a d.carId d.kind .invalidId (ageTaken d)) s

/-- Steps 4 and 5 of R139: the records, oldest first, and then NODE_DROPPED (R143). -/
def takeRecords (a : NodeNo) (r : NodeReply) (s : State) : State :=
  let s := (oldestFirst r.detections).foldl (takeRecord a) s
  if r.dropped then raise (.nodeDropped a r.detections.length) s else s

/-- An answered reply of node `a` taken whole (R139). -/
def takeReply (a : NodeNo) (r : NodeReply) (s : State) : State :=
  let s := takeAnswer a s
  let s := match nodeSwitch a, r.position with
    | some j, some x => takePosition j x s
    | _, _ => s
  takeRecords a r s

/-- After an urgent exchange whose outcome was taken, an address still on the urgent list moves to its tail
(R144). DESIGN CHOICE for an address that left the list and joined it again, while the exchange was in flight or
while its outcome was taken: it counts as still on the list, and moves behind those that joined after it (log
entry 33). -/
def moveServed (x : Exchange) (s : State) : State :=
  match nodeSwitch x.node with
  | some j =>
    if x.urgent && decide (j ∈ s.loop.urgent) then s.setUrgent (s.loop.urgent.filter (· != j) ++ [j]) else s
  | none => s

/-- The exchange in flight ends with an outcome: it is taken whole, or discarded when the node has left the
polled set (R133); then the arbiter chooses the next exchange (R145). DEDUCED for a discarded outcome (log
entries 20 and 28). -/
def endExchange (x : Exchange) (outcome : State → State) (s : State) : State :=
  arbitrate (if x.discard then s else moveServed x (outcome s))

end Sys2Proof.Machine
end

