-- ==== Sys2Proof/Machine/Store.lean ====
section
/-! DEFINITION. SSI: the settings image, its saving and its loading (Chapter 11, Section 11.4). -/

namespace Sys2Proof.Machine

/-! ### The image's sum (R198) -/

/-- A yes/no field's byte (R181). -/
def yesNo (b : Bool) : Byte := if b then 1 else 0

/-- A segment record's bytes, in the order of R1 (R181). -/
def Segment.bytes (r : Segment) : List Byte := [yesNo r.used, byte r.lane] ++ bytes2 r.length ++ [byte r.next]

/-- A switch record's bytes, in the order of R3 (R181). -/
def Switch.bytes (r : Switch) : List Byte :=
  [yesNo r.used, byte r.home, byte r.thrown] ++ bytes2 r.entryOffset ++ bytes2 r.exitStraightOffset ++
    bytes2 r.exitThrownOffset ++ bytes2 r.zoneLength ++ [byteOrNone r.group] ++ bytes2 r.actuation

/-- A gate record's bytes, in the order of R7 (R181). -/
def Gate.bytes (r : Gate) : List Byte := [yesNo r.used, byte r.segment] ++ bytes2 r.offset

/-- A profile's bytes, in the order of R20 (R181). -/
def Profile.bytes (p : Profile) : List Byte :=
  [yesNo p.enabled] ++ bytes2 p.vmax ++ [byte p.response] ++ bytes2 p.length ++ [yesNo p.pace]

/-- A calibration's bytes, in the order of R52 (R181). -/
def Calibration.bytes (k : Calibration) : List Byte := bytes2 k.zero ++ bytes2 k.full ++ bytes2 k.deadband

/-- The limits' bytes, in the order of R188 (R181). -/
def Limits.bytes (l : Limits) : List Byte :=
  bytes2 l.guardTime ++ [byte l.intentHold, byte l.cautionStep, byte l.paceStep, yesNo l.satEvents]

/-- The image's bytes from the generation to the last limit, in R198's order. DEDUCED: the fields are taken
to be encoded as R181 encodes request fields (log entry 7). -/
def Image.bytes (i : Image) : List Byte :=
  bytes2 i.generation.toNat ++ i.map.segments.toList.flatMap Segment.bytes ++
    i.map.switches.toList.flatMap Switch.bytes ++ i.map.gates.toList.flatMap Gate.bytes ++
    [byteOrNone i.map.pairingGate] ++ i.profiles.toList.flatMap Profile.bytes ++
    i.bindings.toList.map byteOrNone ++ i.calibrations.toList.flatMap Calibration.bytes ++
    [byte i.scanSet, byte i.scanInterval, byte i.trim] ++ i.limits.bytes

/-- The 16-bit additive sum of those bytes (R198). -/
def Image.additiveSum (i : Image) : BitVec 16 :=
  i.bytes.foldl (fun x b => x + b.setWidth 16) 0

/-! ### Saving (R198, R199) -/

/-- The generation a save writes: one more, wrapping from 65,535 to 1 (R198). -/
def nextGeneration (g : BitVec 16) : BitVec 16 := if g = 0xFFFF then 1 else g + 1

/-- The image that a save writes of the part's saved content, marker set, with the sum (R198). -/
def imageOf (s : State) : Image :=
  let i : Image :=
    { marker := true
      generation := nextGeneration s.generation
      map := s.map
      profiles := updateAll s.cars fun _ c => c.profile
      bindings := updateAll s.cars fun _ c => c.binding.map Fin.val
      calibrations := updateAll s.handsets fun _ h => h.calibration
      scanSet := s.scanner.setCode
      scanInterval := s.scanner.intervalCode
      trim := s.frames.trim
      limits := s.limits
      sum := 0 }
  { i with sum := i.additiveSum }

/-- The time by which a write made now must be confirmed (R199). -/
def confirmLimit (s : State) : Time := later s.clock 200

/-- The save begins: the marker word is overwritten first, so the memory holds no complete image from then
on (R199 step 1). -/
def beginSave (s : State) : State :=
  { s with
    store := .saving { stage := .clearMarker, left := 0, confirmBy := confirmLimit s }
    memory := { s.memory with marker := false } }

/-- The memory with the first `n` parts of image `i` written over image `m`, in R198's order: generation,
segment, switch and gate tables, pairing-gate setting, profiles, bindings, calibrations, scan set and interval
codes, trim, limits, sum. The marker stays clear (R199 step 2). -/
def Image.written (n : Nat) (i m : Image) : Image :=
  { marker := false
    generation := if 1 ≤ n then i.generation else m.generation
    map :=
      { segments := if 2 ≤ n then i.map.segments else m.map.segments
        switches := if 3 ≤ n then i.map.switches else m.map.switches
        gates := if 4 ≤ n then i.map.gates else m.map.gates
        pairingGate := if 5 ≤ n then i.map.pairingGate else m.map.pairingGate }
    profiles := if 6 ≤ n then i.profiles else m.profiles
    bindings := if 7 ≤ n then i.bindings else m.bindings
    calibrations := if 8 ≤ n then i.calibrations else m.calibrations
    scanSet := if 9 ≤ n then i.scanSet else m.scanSet
    scanInterval := if 10 ≤ n then i.scanInterval else m.scanInterval
    trim := if 11 ≤ n then i.trim else m.trim
    limits := if 12 ≤ n then i.limits else m.limits
    sum := if 13 ≤ n then i.sum else m.sum }

/-- A contents write is confirmed, with `left` further ones to come: the memory holds the parts written so far,
and all of them after the last (R199 step 2). DEDUCED for the time at which a write lands (log entry 11). -/
def writeContents (left : Nat) (s : State) : State :=
  let n := if left = 0 then 13 else Config.imageProgress (Config.imageWrites - left)
  { s with memory := (imageOf s).written n s.memory }

/-- The save ends well: the marker stands in the memory, SSI takes the generation written, returns to IDLE and
raises STORE_DONE (R199 step 3). -/
def finishSave (s : State) : State :=
  let s := { s with
    memory := { s.memory with marker := true }
    generation := nextGeneration s.generation
    store := .idle }
  raise (.storeDone .save s.generation) s

/-- SSI makes a write of a save, which is to be confirmed within 200 tu (R199). -/
def awaitConfirm (stage : SaveStage) (left : Nat) (s : State) : State :=
  { s with store := .saving { stage := stage, left := left, confirmBy := confirmLimit s } }

/-- A write of a save is confirmed: the next write of the stage, or the next stage of R199, or the end. DESIGN
CHOICE: one write is outstanding at a time, and the next is made when it is confirmed (log entry 39). -/
def confirmWrite (p : SaveProgress) (s : State) : State :=
  match p.stage, p.left with
  | .clearMarker, _ => awaitConfirm .contents Config.imageWrites s
  | .contents, n + 1 => awaitConfirm .contents n (writeContents (n + 1) s)
  | .contents, 0 => awaitConfirm .setMarker 0 (writeContents 0 s)
  | .setMarker, _ => finishSave s

/-- A write of a save goes unconfirmed: SSI stops, keeps its generation and raises STORE_FAIL, NO_ACK; the
memory keeps no marker (R199). -/
def failSave (s : State) : State := raise (.storeFail .save .noAck) { s with store := .idle }

/-! ### The checks of a load (R200) -/

/-- The limits lie in the ranges of R188. -/
def Limits.inRange (l : Limits) : Bool :=
  l.guardTime ≤ 2000 && 1 ≤ l.intentHold && l.intentHold ≤ 255 && l.cautionStep ≤ 63 && l.paceStep ≤ 63

/-- A scan set code 0–2 and an interval code 0–3 (R43). -/
def scanInRange (setCode intervalCode : Nat) : Bool := setCode ≤ 2 && intervalCode ≤ 3

/-- Every calibration is one that WRITE CALIBRATION accepts for its handset (R52). -/
def calibrationsInRange (v : Vector Calibration 16) : Bool := handsetNos.all fun h => v[h].inRange h

/-- Check 3 passes: every field lies in the range that its writing request would accept (R200). -/
def Image.inRange (i : Image) : Bool :=
  i.map.inRange && i.profiles.toList.all Profile.inRange && i.bindings.toList.all (·.all (· ≤ 15)) &&
    calibrationsInRange i.calibrations && scanInRange i.scanSet i.scanInterval && i.trim ≤ 63 &&
    i.limits.inRange

/-- Check 4 passes: no handset is bound to two cars, and every bound car is enabled in the image (R80,
R200). -/
def Image.bindingsSound (i : Image) : Bool :=
  carNos.all fun c =>
    match i.bindings[c] with
    | none => true
    | some h => i.profiles[c].enabled && carNos.all fun d => d == c || i.bindings[d] != some h

/-- The first check of R200 that an image fails, in the race state found when the checks end. -/
def loadFault (i : Image) (race : RaceState) : Option StoreReason :=
  if !i.marker then some .marker
  else if i.sum ≠ i.additiveSum then some .sum
  else if !i.inRange then some .range
  else if !i.bindingsSound then some .binding
  else if race ≠ .setup then some .state
  else none

/-! ### Applying a load (R201) -/

/-- A binding of the image as a handset number. -/
def Image.binding (i : Image) (c : CarNo) : Option HandsetNo :=
  match i.bindings[c] with
  | some n => if h : n < 16 then some ⟨n, h⟩ else none
  | none => none

/-- The car that the image binds a handset to. -/
def Image.boundCar (i : Image) (h : HandsetNo) : Option CarNo := carNos.find? fun c => i.binding c == some h

/-- A car after a load: profile and binding replaced, fix NONE with the stale mark clear, intent NONE, and
the estimate 0 for a car left disabled (R40, R201). -/
def Car.loaded (c : Car) (p : Profile) (binding : Option HandsetNo) : Car :=
  { c with profile := p, binding := binding, intent := none, fix := none, stale := false, ageExpiry := none,
           speed := if p.enabled then c.speed else 0 }

/-- A handset after a load: ABSENT, radio expiries cancelled, calibration replaced, and BOUND or IDLE as the
image says (R61, R80). -/
def Handset.loaded (r : Handset) (k : Calibration) (bound : Option CarNo) : Handset :=
  { r.makeAbsent with
    holdEnd := none
    lostTime := none
    calibration := k
    pairing := match bound with
      | some c => .bound c
      | none => .idle }

/-- The map tables replaced, map-valid cleared, and switches and gates whose used field changes taken in
ascending number, switches first (R19, R130, R133, R201). -/
def loadMap (m : TrackMap) (s : State) : State :=
  let old := s.map
  let s := { s with map := m, mapValid := false }
  let s := switchNos.foldl (fun s j => followSwitchUse (old.switch j).used (m.switch j).used j s) s
  (List.finRange 16).foldl (fun s g => followGateUse (old.gate g.val).used (m.gate g.val).used g s) s

/-- A load that passes its checks applied to every block as one arrival (R201), ending with STORE_DONE. -/
def applyLoad (i : Image) (s : State) : State :=
  let s := loadMap i.map s
  let s := { s with
    cars := updateAll s.cars fun c r => r.loaded i.profiles[c] (i.binding c)
    seeks := []
    handsets := updateAll s.handsets fun h r => r.loaded i.calibrations[h] (i.boundCar h)
    frames := { s.frames with trim := i.trim }
    limits := i.limits
    generation := i.generation
    store := .idle }
  wakeLoop (raise (.storeDone .load i.generation) (restartScanner i.scanSet i.scanInterval s))

/-- The image read completes: it is checked, and applied or refused with STORE_FAIL (R200, R201). -/
def completeLoad (s : State) : State :=
  match loadFault s.memory s.race with
  | some reason => raise (.storeFail .load reason) { s with store := .idle }
  | none => applyLoad s.memory s

end Sys2Proof.Machine
end

