-- ==== Sys2Proof/Machine/Arrivals.lean ====
section
/-! DEFINITION. The arrivals that are not requests: resets, expiries, round results, loop outcomes, cycle
ends and the settings memory's answers. An expiry that is not pending, or that the race clock has not
reached, does not come about, and a command for it changes nothing (Section 6.3, log entry 3). -/

namespace Sys2Proof.Machine

/-! ### Resets -/

/-- RESET_PIN_ASSERT: the pin is held low, and until its release nothing else acts on the part (R173). -/
def execResetPinAssert (s : State) : Host.Outcome State Fault Refusal := .next { s with resetHeld := true }

/-- POWER_ON_RESET with the strap levels sampled at it (R173, R202). -/
def execPowerOnReset (straps : Straps) (s : State) : Host.Outcome State Fault Refusal := .next (powerOn straps s)

/-! ### Handset unit -/

/-- INTERVAL_TIMER_EXPIRY: a round over the scan set starts, and the timer runs on (R44). DESIGN CHOICE for a
round still unfinished (log entry 14). -/
def execIntervalTimerExpiry (s : State) : Host.Outcome State Fault Refusal :=
  whenRunning s fun s =>
    if reached s.clock s.scanner.nextRound then
      { s with scanner := { s.scanner with
        round := scanChannels s.scanner.setCode,
        nextRound := later s.scanner.nextRound (scanInterval s.scanner.intervalCode) } }
    else s

/-- ROUND_RESULT: the conversion of the round's next channel completes (R44, R54). -/
def execRoundResult (ch : Channel) (raw : BitVec 12) (pressed : Bool) (s : State) :
    Host.Outcome State Fault Refusal :=
  whenRunning s fun s =>
    match s.scanner.round with
    | [] => s
    | next :: rest =>
      if next = ch then
        takeRoundResult ch raw pressed { s with scanner := { s.scanner with round := rest } }
      else s

/-- HOLD_END: step 0, button released, hold timer stopped (R51). -/
def execHoldEnd (h : HandsetNo) (s : State) : Host.Outcome State Fault Refusal :=
  whenRunning s fun s =>
    if due s.clock s.handsets[h].holdEnd then
      s.modifyHandset h fun r => { r with holdEnd := none, step := 0, button := false, holdTimer := none }
    else s

/-- LOST_TIME: the presence becomes LOST and HS_LOST is raised (R51, R60). -/
def execLostTime (h : HandsetNo) (s : State) : Host.Outcome State Fault Refusal :=
  whenRunning s fun s =>
    let r := s.handsets[h]
    if due s.clock r.lostTime then
      raise (.handsetLost h r.pairing.car r.lastSample)
        (s.modifyHandset h fun r => { r with lostTime := none, presence := .lost })
    else s

/-- The expiry of a running hold timer, 20,000 tu after its start (R56). -/
def holdExpiry (r : Handset) : Option Time := r.holdTimer.map (later · 20000)

/-- HOLD_TIMER_EXPIRY: the timer stops and PRU takes a seek request (R56, R65, R66). -/
def execHoldTimerExpiry (h : HandsetNo) (s : State) : Host.Outcome State Fault Refusal :=
  whenRunning s fun s =>
    if due s.clock (holdExpiry s.handsets[h]) then
      seekRequest h (s.modifyHandset h fun r => { r with holdTimer := none })
    else s

/-! ### Pairing unit -/

/-- The queue entry of a handset. -/
def seekOf (h : HandsetNo) (s : State) : Option Seek := s.seeks.find? fun e => e.handset == h

/-- SEEK_TIMER_EXPIRY: the handset leaves the queue, becomes IDLE, and SEEK_TIMEOUT is raised (R64, R67). -/
def execSeekTimerExpiry (h : HandsetNo) (s : State) : Host.Outcome State Fault Refusal :=
  whenRunning s fun s =>
    match seekOf h s with
    | none => s
    | some e =>
      if reached s.clock (later e.joined 200000) then
        raise (.seekTimeout h e.joined) (setPairing h .idle (leaveQueue h s))
      else s

/-! ### Car table -/

/-- INTENT_EXPIRY: an ARMED intent whose expiry time is reached becomes NONE (R37). -/
def execIntentExpiry (c : CarNo) (s : State) : Host.Outcome State Fault Refusal :=
  whenRunning s fun s =>
    if due s.clock s.cars[c].intent then s.modifyCar c fun r => { r with intent := none } else s

/-- AGE_EXPIRY: the stale mark is set (R26). -/
def execAgeExpiry (c : CarNo) (s : State) : Host.Outcome State Fault Refusal :=
  whenRunning s fun s =>
    if due s.clock s.cars[c].ageExpiry then
      s.modifyCar c fun r => { r with ageExpiry := none, stale := true }
    else s

/-! ### Lane change arbiter and switch controller -/

/-- Car `c`'s entry in a list whose stale time is reached. -/
def staleEntry (clock : Time) (c : CarNo) (l : List Reservation) : Option Reservation :=
  l.find? fun e => e.car == c && reached clock e.staleAt

/-- STALE_EXPIRY: the entry is removed, STALE_RES is raised, and the return request follows when the list is
left empty (R101, R103). -/
def execStaleExpiry (j : SwitchNo) (c : CarNo) (s : State) : Host.Outcome State Fault Refusal :=
  whenRunning s fun s =>
    match staleEntry s.clock c s.lists[j] with
    | none => s
    | some e =>
      returnIfEmpty j (raise (.staleRes c j e.exitAt) (s.setList j (s.lists[j].erase e)))

/-- DEADLINE_EXPIRY: the switch enters FAULT with cause DEADLINE (R117). -/
def execDeadlineExpiry (j : SwitchNo) (s : State) : Host.Outcome State Fault Refusal :=
  whenRunning s fun s =>
    if due s.clock s.switches[j].deadline then enterFault j .deadline s else s

/-! ### Frame builder -/

/-- CYCLE_END: the frame is composed, published and handed on (R153). -/
def execCycleEnd (s : State) : Host.Outcome State Fault Refusal :=
  whenRunning s fun s => if s.now.hasReached s.frames.cycleEnd then publishFrame s else s

/-! ### Sensor loop controller -/

/-- POLL_SENT: the poll of the exchange in flight has been sent, and the 2 tu reply timer starts (R134). -/
def execPollSent (s : State) : Host.Outcome State Fault Refusal :=
  whenRunning s fun s =>
    match s.loop.exchange with
    | none => s
    | some x =>
      if x.replyBy.isNone then
        { s with loop := { s.loop with exchange := some { x with replyBy := some (later s.clock 2) } } }
      else s

/-- REPLY_RECEIVED before the reply timer expires: the exchange ends answered, or in a miss when the reply is
malformed (R134, R136, R139). DEDUCED at the edge of the timer (log entry 13). -/
def execReplyReceived (r : NodeReply) (s : State) : Host.Outcome State Fault Refusal :=
  whenRunning s fun s =>
    match s.loop.exchange with
    | none => s
    | some x =>
      if x.replyBy.isSome && !due s.clock x.replyBy then
        endExchange x (if malformed r x.node then takeMiss x.node else takeReply x.node r) s
      else s

/-- REPLY_TIMEOUT: the exchange ends in a miss (R134, R137). -/
def execReplyTimeout (s : State) : Host.Outcome State Fault Refusal :=
  whenRunning s fun s =>
    match s.loop.exchange with
    | none => s
    | some x => if due s.clock x.replyBy then endExchange x (takeMiss x.node) s else s

/-! ### Settings store interface -/

/-- SAVE_WRITE_CONFIRM: the outstanding write of a save is confirmed (R199). DESIGN CHOICE at its limit (log
entry 12). -/
def execSaveWriteConfirm (s : State) : Host.Outcome State Fault Refusal :=
  whenRunning s fun s =>
    match s.store with
    | .saving p => confirmWrite p s
    | .idle | .loading => s

/-- SAVE_WRITE_TIMEOUT: the outstanding write of a save is unconfirmed at its 200 tu limit (R199). -/
def execSaveWriteTimeout (s : State) : Host.Outcome State Fault Refusal :=
  whenRunning s fun s =>
    match s.store with
    | .saving p => if reached s.clock p.confirmBy then failSave s else s
    | .idle | .loading => s

/-- LOAD_COMPLETE: the image read by a load in flight is checked and applied (R200, R201). -/
def execLoadComplete (s : State) : Host.Outcome State Fault Refusal :=
  whenRunning s fun s =>
    match s.store with
    | .loading => completeLoad s
    | .idle | .saving _ => s

end Sys2Proof.Machine
end

