-- ==== Sys2Proof/Machine/Operands.lean ====
section
/-! DEFINITION. Requests: the catalogue, the checks of an ended frame, the fields of a body, and the replies
(Chapter 10). -/

namespace Sys2Proof.Machine

/-! ### Status codes and replies (R178, R182) -/

/-- The status of a reply (R182). -/
inductive Status where
  | ok | noChange | full | unknown | format | role | state | range | conflict | busy
  deriving DecidableEq, Repr

/-- The status byte (R182). -/
def Status.code (x : Status) : Byte :=
  match x with
  | .ok => 0x00
  | .noChange => 0x01
  | .full => 0x02
  | .unknown => 0x10
  | .format => 0x11
  | .role => 0x12
  | .state => 0x13
  | .range => 0x14
  | .conflict => 0x15
  | .busy => 0x16

/-- A reply as the owning block gives it: a status and a body. -/
structure Reply where
  status : Status
  body : List Byte
  deriving DecidableEq, Repr

/-- The reply frame: start byte A5h, status, body length, body (R178). -/
def Reply.bytes (r : Reply) : List Byte := [0xA5, r.status.code, byte r.body.length] ++ r.body

/-- A reply without a body. -/
def Reply.bare (x : Status) : Reply := { status := x, body := [] }

/-- A request turned away: nothing changes, and the reply has no body (R182). -/
def refuse (x : Status) (s : State) : State × Reply := (s, Reply.bare x)

/-- A request carried out and answered OK with no body. -/
def accept (s : State) : State × Reply := (s, Reply.bare .ok)

/-- A request answered OK with a body, no state changed. -/
def report (body : List Byte) (s : State) : State × Reply := (s, { status := .ok, body := body })

/-! ### The catalogue (R185) -/

/-- The request rows of the table. SET RACE STATE is seven rows: one a target, and one for a target that is
none of the six. -/
inductive Request where
  | identify | status | readEvents | setEventMask | clearFlags | clearQueue
  | start | caution | clearCaution | halt | resume | setup | badTarget
  | railFault | railClear
  | writeSegment | readSegment | writeSwitch | readSwitch | writeGate | readGate | setPairingGate
  | validateMap | writeProfile | readCar | writeCalibration | setScan | readRaw | readHandset | postSamples
  | bind | unbind | readPairing | lockSwitch | unlockSwitch | clearSwitch | readNode
  | fetchFrame | setCycleTrim | setLimits | saveImage | loadImage | restart
  deriving DecidableEq, Repr

/-- The request code byte (R185). -/
def Request.code (x : Request) : Byte :=
  match x with
  | .identify => 0x01
  | .status => 0x02
  | .readEvents => 0x03
  | .setEventMask => 0x04
  | .clearFlags => 0x05
  | .clearQueue => 0x06
  | .start | .caution | .clearCaution | .halt | .resume | .setup | .badTarget => 0x10
  | .railFault => 0x11
  | .railClear => 0x12
  | .writeSegment => 0x20
  | .readSegment => 0x21
  | .writeSwitch => 0x22
  | .readSwitch => 0x23
  | .writeGate => 0x24
  | .readGate => 0x25
  | .setPairingGate => 0x26
  | .validateMap => 0x27
  | .writeProfile => 0x30
  | .readCar => 0x31
  | .writeCalibration => 0x40
  | .setScan => 0x41
  | .readRaw => 0x42
  | .readHandset => 0x43
  | .postSamples => 0x44
  | .bind => 0x50
  | .unbind => 0x51
  | .readPairing => 0x52
  | .lockSwitch => 0x60
  | .unlockSwitch => 0x61
  | .clearSwitch => 0x62
  | .readNode => 0x68
  | .fetchFrame => 0x70
  | .setCycleTrim => 0x71
  | .setLimits => 0x80
  | .saveImage => 0x81
  | .loadImage => 0x82
  | .restart => 0x83

/-- Every code of the catalogue (R185). -/
def catalogueCodes : List Byte :=
  [0x01, 0x02, 0x03, 0x04, 0x05, 0x06, 0x10, 0x11, 0x12, 0x20, 0x21, 0x22, 0x23, 0x24, 0x25, 0x26, 0x27,
   0x30, 0x31, 0x40, 0x41, 0x42, 0x43, 0x44, 0x50, 0x51, 0x52, 0x60, 0x61, 0x62, 0x68, 0x70, 0x71, 0x80,
   0x81, 0x82, 0x83]

/-- The SET RACE STATE target byte of a row (R185). -/
def Request.target (x : Request) : Option Byte :=
  match x with
  | .start => some 0
  | .caution => some 1
  | .clearCaution => some 2
  | .halt => some 3
  | .resume => some 4
  | .setup => some 5
  | _ => none

/-- An ended frame is this row's: its code is the row's and, for a SET RACE STATE row, its target byte is the
row's, or none of the six for the last of them (R163, R185). A frame without a target byte is the last
row's (log entry 8). -/
def Request.owns (x : Request) (f : Frame) : Bool :=
  f.code == x.code &&
    match x.target with
    | some t => f.body.head? == some t
    | none => if x = .badTarget then f.body.head?.all (5 < ·.toNat) else true

/-- The role of a port (R175). -/
def portRole (p : Port) : Role :=
  match p with
  | .base => .base
  | .console => .console
  | .radio => .radio

/-- The roles allowed a request (R185). -/
def Request.allows (x : Request) (r : Role) : Bool :=
  match x with
  | .identify | .status | .readEvents | .setEventMask | .clearFlags | .clearQueue
  | .readSegment | .readSwitch | .readGate | .readCar | .readHandset | .readPairing | .readNode => true
  | .railFault | .railClear | .fetchFrame => r == .base
  | .postSamples => r == .radio
  | _ => r == .console

/-- The exact body length the catalogue gives a request; POST SAMPLES, of 1 + 3 × count bytes, is checked by
`lengthFits` (R185). -/
def Request.bodyLength (x : Request) : Nat :=
  match x with
  | .identify | .status | .readEvents | .clearQueue => 0
  | .setEventMask => 2
  | .clearFlags => 1
  | .start | .caution | .clearCaution | .halt | .resume | .setup | .badTarget => 1
  | .railFault | .railClear => 0
  | .writeSegment => 6
  | .readSegment => 1
  | .writeSwitch => 15
  | .readSwitch => 1
  | .writeGate => 5
  | .readGate => 1
  | .setPairingGate => 1
  | .validateMap => 0
  | .writeProfile => 8
  | .readCar => 1
  | .writeCalibration => 7
  | .setScan => 2
  | .readRaw => 1
  | .readHandset => 1
  | .postSamples => 1
  | .bind => 2
  | .unbind => 1
  | .readPairing => 0
  | .lockSwitch | .unlockSwitch | .clearSwitch => 1
  | .readNode => 1
  | .fetchFrame => 0
  | .setCycleTrim => 1
  | .setLimits => 6
  | .saveImage | .loadImage | .restart => 0

/-- Check 3 of R180: the body length equals the catalogue's; for POST SAMPLES the count byte is 1–8 and the
length is 1 + 3 × count. -/
def Request.lengthFits (x : Request) (body : List Byte) : Bool :=
  if x = .postSamples then
    match body with
    | n :: _ => 1 ≤ n.toNat && n.toNat ≤ 8 && body.length == 1 + 3 * n.toNat
    | [] => false
  else body.length == x.bodyLength

/-- The bits of a yes/no field other than bit 0 are reserved (R181). -/
def reservedYesNo (b : Option Byte) : Bool := b.any fun b => b &&& 0xFE != 0

/-- The yes/no bytes of the samples of a POST SAMPLES body, after its count byte. -/
def samplesReserved (l : List Byte) : Bool :=
  match l with
  | _ :: _ :: b :: rest => b &&& 0xFE != 0 || samplesReserved rest
  | _ => false

/-- Check 4 of R180: a reserved bit of the body is set (R181): bits 7:1 of a yes/no field, bits 15:9 of the
class mask, bits 7:5 of the keep-mask. DEDUCED for a sample's button byte (log entry 29). -/
def Request.reservedSet (x : Request) (body : List Byte) : Bool :=
  match x with
  | .writeSegment | .writeSwitch | .writeGate => reservedYesNo body[1]?
  | .writeProfile => reservedYesNo body[1]? || reservedYesNo body[7]?
  | .setLimits => reservedYesNo body[5]?
  | .postSamples => samplesReserved body.tail
  | .setEventMask => body[1]?.any fun b => b &&& 0xFE != 0
  | .clearFlags => body[0]?.any fun b => b &&& 0xE0 != 0
  | _ => false

/-- Checks 2 to 5 of R180 on an ended frame of a catalogued request; `none` when it passes. -/
def Request.check (x : Request) (r : Role) (f : Frame) : Option Status :=
  if f.length.any (60 < ·.toNat) then some .format
  else if !x.lengthFits f.body then some .format
  else if x.reservedSet f.body then some .format
  else if !x.allows r then some .role
  else none

/-! ### Serving an ended frame (R178, R180) -/

/-- The frame on a port that has ended and waits to be taken: the port is TAKING (R178). -/
def endedFrame (p : Port) (s : State) : Option Frame :=
  if (s.ports.get p).phase = .taking then (s.ports.get p).request else none

/-- The composed reply is ready and the port enters REPLYING (R178). -/
def enterReplying (p : Port) (r : Reply) (s : State) : State :=
  s.modifyPort p fun x => { x with phase := .replying, reply := some { bytes := r.bytes, sent := 0 } }

/-- An ended frame checked by R180, handed to its owner when it passes, and the reply composed (R178). -/
def answerFrame (x : Request) (p : Port) (owner : List Byte → State → State × Reply) (f : Frame) (s : State) :
    State :=
  match x.check (portRole p) f with
  | some status => enterReplying p (Reply.bare status) s
  | none => enterReplying p (owner f.body s).2 (owner f.body s).1

/-- A row's ended frame taken on a port. A port on which no such frame has ended takes nothing (R183, log
entry 3). -/
def serve (x : Request) (p : Port) (owner : List Byte → State → State × Reply) (s : State) :
    Host.Outcome State Fault Refusal :=
  whenRunning s fun s =>
    match endedFrame p s with
    | none => s
    | some f => if x.owns f then answerFrame x p owner f s else s

/-- An ended frame whose code is not in the catalogue is answered UNKNOWN (R180). -/
def serveUnknown (p : Port) (s : State) : Host.Outcome State Fault Refusal :=
  whenRunning s fun s =>
    match endedFrame p s with
    | none => s
    | some f => if f.code ∈ catalogueCodes then s else enterReplying p (Reply.bare .unknown) s

/-! ### Fields of a request body (R181) -/

/-- A two-byte number, the low byte first. -/
def number2 (lo hi : Byte) : Nat := lo.toNat + 256 * hi.toNat

/-- A yes/no field, once its reserved bits have been checked. -/
def isYes (b : Byte) : Bool := b == 1

/-- A one-byte number that may be NONE: FFh is NONE. -/
def numberOrNone (b : Byte) : Option Nat := if b = 0xFF then none else some b.toNat

/-- A numbered thing within its table, or `none` out of range. -/
def numbered (n : Nat) (b : Byte) : Option (Fin n) := if h : b.toNat < n then some ⟨b.toNat, h⟩ else none

end Sys2Proof.Machine
end

