-- ==== Sys2Proof/Machine/Flags.lean ====
section
/-! DEFINITION. Flag bytes and masks of the replies, and the attention lines (R181, R184, R195, R196). -/

namespace Sys2Proof.Machine

/-- The byte of a flag field whose polarity R181 leaves open (Config.setIsOne, log entry 2). -/
def flagByte (f : FlagField) (b : Bool) : Byte := if b == Config.setIsOne f then 1 else 0

/-- The byte of a field whose owning rule lists its values as set and then clear: an enumerated value that no table
numbers counts from 0 in that order (R181; rail hold R162, frame-pending R150, REPEAT R158). -/
def setClearByte (b : Bool) : Byte := if b then 0 else 1

/-- READ CAR's stale indication, yes or no: R181 lists it among the codes numbered from 0 in the order of the
owning rule, and R39 gives yes first. -/
def staleByte (b : Bool) : Byte := if b then 0 else 1

/-- The sticky flags of a port as one byte, each at its keep bit (R196). DEDUCED (log entry 9). -/
def StickyFlags.byte (f : StickyFlags) : Byte :=
  (0 : BitVec 3) ++ BitVec.ofBool f.misrouteSeen ++ BitVec.ofBool f.nodeFaultSeen ++ BitVec.ofBool f.satSeen ++
    BitVec.ofBool f.overrun ++ BitVec.ofBool f.railFault

/-- CLEAR FLAGS: a flag whose keep bit is 0 is cleared, the others stand (R196). -/
def StickyFlags.keep (f : StickyFlags) (mask : Byte) : StickyFlags :=
  { railFault := f.railFault && mask.getLsbD 0
    overrun := f.overrun && mask.getLsbD 1
    satSeen := f.satSeen && mask.getLsbD 2
    nodeFaultSeen := f.nodeFaultSeen && mask.getLsbD 3
    misrouteSeen := f.misrouteSeen && mask.getLsbD 4 }

/-- A port's attention line is asserted while its queue holds a record and, for the base port, while
frame-pending is set (R184, R195). -/
def attentionAsserted (s : State) (p : Port) : Bool :=
  !(s.events.get p).queue.isEmpty || (p == .base && s.frames.framePending)

/-- How an attention line stands (R184). -/
inductive LineLevel where
  | drivenLow | drivenHigh | undriven
  deriving DecidableEq, Repr

/-- The attention line of a port: low when asserted, and when released as its drive says; undriven while the
reset pin is held low (R173, R184). -/
def attentionLine (s : State) (p : Port) : LineLevel :=
  if s.resetHeld then .undriven
  else if attentionAsserted s p then .drivenLow
  else
    match (s.ports.get p).drive with
    | .pushPull => .drivenHigh
    | .openDrain => .undriven

end Sys2Proof.Machine
end

