-- ==== Sys2Proof/Machine/Replies.lean ====
section
/-! DEFINITION. The bodies of the replies to reading requests: fields in the order in which the owning rule
lists them, each encoded as R181 gives. -/

namespace Sys2Proof.Machine

/-- A time that may be absent: its code byte, 0 for none and 1 for a time, then the time, 0 when absent
(R181). DEDUCED, as are the other layouts below that R181 leads to (log entry 23). -/
def timeOrNone (t : Option Time) : List Byte :=
  match t with
  | some t => 1 :: bytes4 t
  | none => 0 :: bytes4 0

/-- A car number attached to a code, 0 when the code does not call for it (R181). -/
def pairingBytes (x : PairingState) : List Byte :=
  match x with
  | .idle => [0, 0]
  | .seeking => [1, 0]
  | .bound c => [2, byte c.val]

/-- READ CAR's body (R39). -/
def carReply (c : Car) (clock : Time) : List Byte :=
  c.profile.bytes ++ [byteOrNone (c.binding.map Fin.val)] ++ timeOrNone c.intent ++ bytes2 c.speed ++
    (match c.fix with
      | some f => [1, byte f.sensor.node.val, byte (sensorCode f.sensor.kind)] ++ bytes4 f.time
      | none => [0, 0, 0] ++ bytes4 0) ++
    [staleByte (c.fixStale clock), byte c.lastStep, byte c.misroutes, byte c.refixes]

/-- Presence codes, in the order of R42. -/
def Presence.code (x : Presence) : Nat :=
  match x with
  | .absent => 0
  | .active => 1
  | .lost => 2

/-- READ HANDSET's body (R59). -/
def handsetReply (h : HandsetNo) (r : Handset) : List Byte :=
  [if isWired h then 0 else 1, byte r.presence.code] ++ pairingBytes r.pairing ++ r.calibration.bytes ++
    [byte r.step, yesNo r.button] ++ timeOrNone r.holdTimer ++ bytes4 r.lastSample

/-- READ RAW's body: the latched value and FRESH as they stood (R46). -/
def rawReply (x : Latch) : List Byte := bytes2 x.raw.toNat ++ [flagByte .fresh x.fresh]

/-- READ PAIRING's body (R78). -/
def pairingReply (s : State) : List Byte :=
  [byte s.seeks.length] ++ s.seeks.flatMap (fun e => byte e.handset.val :: bytes4 e.joined) ++
    s.handsets.toList.flatMap (fun h => pairingBytes h.pairing) ++ [byteOrNone s.map.pairingGate]

/-- READ GATE's body: the record and the pairing mark (R8, R18). -/
def gateReply (m : TrackMap) (g : Fin 16) : List Byte :=
  (m.gate g.val).bytes ++ [yesNo (m.pairingGate == some g.val)]

/-- A verdict record's bytes (R97): flags G, C, L, S, U as a mask from bit 0, the conflict set as a two-byte
mask. DEDUCED (log entry 9). -/
def VerdictRecord.bytes (v : VerdictRecord) : List Byte :=
  let flags : Byte := (0 : BitVec 3) ++ BitVec.ofBool v.flagU ++ BitVec.ofBool v.flagS ++ BitVec.ofBool v.flagL ++
    BitVec.ofBool v.flagC ++ BitVec.ofBool v.flagG
  [byte v.car.val, byte v.switch.val] ++ bytes4 v.refTime ++ [byte v.verdict.code, flags] ++
    bytes2 v.conflicts.toNat ++ [byteOrNone (carNumber v.firstConflict)] ++ bytes2 v.entry ++ bytes2 v.exit

/-- A reservation entry's bytes (R108). -/
def Reservation.bytes (e : Reservation) : List Byte :=
  byte e.car.val :: (bytes4 e.entryAt ++ bytes4 e.exitAt ++ bytes4 e.grantedAt ++ bytes4 e.staleAt)

/-- A switch's runtime record's bytes (R128). -/
def SwitchRun.bytes (r : SwitchRun) : List Byte :=
  [byte r.state.code, byte r.commanded.code, byte r.confirmed.code] ++ timeOrNone r.deadline ++
    bytes2 r.throwCount ++ [byte r.faultCount] ++ bytes2 r.straightPassages ++ bytes2 r.thrownPassages

/-- READ SWITCH's body (R108, R128): record, runtime record, urgent-list membership, reservation list and
last-verdict record: code 0 and the record, or code 1 for NONE and fields of 0, since R108 lists the record first
and then NONE (R181). -/
def switchReply (s : State) (j : SwitchNo) : List Byte :=
  (s.map.switch j).bytes ++ s.switches[j].bytes ++ [yesNo (decide (j ∈ s.loop.urgent))] ++
    [byte s.lists[j].length] ++ s.lists[j].flatMap Reservation.bytes ++
    (match s.verdicts[j] with
      | some v => 0 :: v.bytes
      | none => 1 :: List.replicate 15 0)

/-- Node state codes, in the order of R132. -/
def NodeState.code (x : NodeState) : Nat :=
  match x with
  | .unpolled => 0
  | .ok => 1
  | .missing => 2
  | .fault => 3

/-- Poll command codes, in the order of R134. -/
def PollCommand.code (x : PollCommand) : Nat :=
  match x with
  | .setThrown => 0
  | .setStraight => 1
  | .none => 2

/-- A switch's place on the urgent list, 1–24, or 0 off the list (R148). -/
def urgentPlace (l : List SwitchNo) (j : SwitchNo) : Nat := if j ∈ l then l.idxOf j + 1 else 0

/-- READ NODE's body (R148). -/
def nodeReply (s : State) (a : NodeNo) : List Byte :=
  let r := s.loop.nodes[a]
  [byte r.state.code, byte r.missCount, byte r.goodCount] ++ bytes2 r.exchanges ++ bytes2 r.misses ++
    timeOrNone r.lastAnswer ++ timeOrNone r.lastMiss ++
    (match nodeSwitch a with
      | some j => [yesNo (decide (j ∈ s.loop.urgent)), byte (urgentPlace s.loop.urgent j),
                   byte (pollCommand a s).code]
      | none => [])

/-- Validation record kinds, in the order of R14: NONE, SEGMENT, SWITCH, GATE, PAIRING GATE; then the record
number or NONE. -/
def MapRecord.bytes (r : MapRecord) : List Byte :=
  match r with
  | .whole => [0, 0xFF]
  | .segment n => [1, byte n]
  | .switch n => [2, byte n]
  | .gate n => [3, byte n]
  | .pairingGate n => [4, byte n]

/-- Validation reasons, in the order of R14's table. -/
def MapReason.code (r : MapReason) : Nat :=
  match r with
  | .empty => 0
  | .nextUnused => 1
  | .sameLane => 2
  | .offset => 3
  | .sharedHome => 4
  | .gateSegment => 5
  | .pairingGate => 6

/-- VALIDATE MAP's body: result (VALID 0, INVALID 1), record kind, record number, reason (R14). -/
def validationReply (x : Option MapFault) : List Byte :=
  match x with
  | none => [0, 0, 0xFF, 0xFF]
  | some f => 1 :: (f.record.bytes ++ [byte f.reason.code])

/-- FETCH FRAME's body, from FRB's state as the request finds it (R158, R185). -/
def frameReply (f : FrameBuilder) (x : CarFrame) : List Byte :=
  [x.seq, byte x.race.code, setClearByte f.fetched] ++ bytes2 f.missed ++
    x.words.toList.flatMap fun w => bytes2 w.toNat

/-- SSI state codes, in the order of R198. -/
def StoreState.code (x : StoreState) : Nat :=
  match x with
  | .idle => 0
  | .saving _ => 1
  | .loading => 2

/-- A port's number, SP0 to SP2 (R175). -/
def portNumber (p : Port) : Nat :=
  match p with
  | .base => 0
  | .console => 1
  | .radio => 2

/-- Role codes: 0 base, 1 console, 2 radio (R186). -/
def Role.code (r : Role) : Nat :=
  match r with
  | .base => 0
  | .console => 1
  | .radio => 2

/-- IDENTIFY's body on a port (R186). -/
def identifyReply (p : Port) (role : Role) : List Byte :=
  [0x56] ++ bytes2 612 ++ [byte (portNumber p), byte role.code] ++
    [12, 16, 4, 64, 24, 16, 8, 4, 4, 32, 8, 60]

/-- STATUS's body on a port (R187). -/
def statusReply (s : State) (p : Port) : List Byte :=
  let q := s.events.get p
  [byte s.race.code, setClearByte s.railHold, flagByte .mapValid s.mapValid, byte s.store.code] ++
    bytes4 s.clock ++ [q.flags.byte, byte q.queue.length, byte q.drops] ++ bytes2 q.mask.toNat ++
    [yesNo s.limits.satEvents, setClearByte s.frames.framePending] ++ bytes2 s.frames.missed ++
    [byte (s.ports.get p).aborted, byte (s.ports.get p).cut]

/-- READ EVENTS's body from a queue: the number left, the number returned, the records (R193). -/
def eventsReply (queue : List EventRecord) : List Byte :=
  [byte (queue.length - 8), byte (queue.take 8).length] ++ (queue.take 8).flatMap EventRecord.bytes

end Sys2Proof.Machine
end

