-- ==== Sys2Proof/Machine/CarCommands.lean ====
section
/-! DEFINITION. The car requests (R21, R22, R39). -/

namespace Sys2Proof.Machine

/-- A car disabled: its intent NONE, its estimate 0, its fix NONE with the stale mark clear and the age
expiry cancelled (R22 steps 2 and 3). -/
def Car.disable (c : Car) : Car := { c.clearFix with intent := none, speed := 0, stale := false }

/-- A binding dissolved because its car is disabled (R22 step 1, R68). -/
def dissolveDisabled (c : CarNo) (s : State) : State :=
  match s.cars[c].binding with
  | some h => dissolve h c .disabled s
  | none => s

/-- A profile stored, with the effects of R22 when it disables the car. -/
def storeProfile (c : CarNo) (p : Profile) (s : State) : State :=
  let before := s.cars[c].profile.enabled
  let s := s.modifyCar c fun r => { r with profile := p }
  if before && !p.enabled then (dissolveDisabled c s).modifyCar c Car.disable else s

/-- WRITE PROFILE's owner: STATE, BUSY and RANGE in R21's order. -/
def writeProfile (body : List Byte) (s : State) : State × Reply :=
  match body with
  | [number, enabled, vmaxLo, vmaxHi, response, lengthLo, lengthHi, pace] =>
    let p : Profile :=
      { enabled := isYes enabled, vmax := number2 vmaxLo vmaxHi, response := response.toNat,
        length := number2 lengthLo lengthHi, pace := isYes pace }
    if s.race ≠ .setup then refuse .state s
    else if s.storeBusy then refuse .busy s
    else
      match numbered 12 number with
      | some c => if p.inRange then accept (storeProfile c p s) else refuse .range s
      | none => refuse .range s
  | _ => refuse .format s

/-- WRITE_PROFILE (R21). -/
def execWriteProfile (p : Port) (s : State) : Host.Outcome State Fault Refusal :=
  serve .writeProfile p writeProfile s

/-- READ CAR's owner (R39). -/
def readCar (body : List Byte) (s : State) : State × Reply :=
  match body with
  | [number] =>
    match numbered 12 number with
    | some c => report (carReply s.cars[c] s.clock) s
    | none => refuse .range s
  | _ => refuse .format s

/-- READ_CAR (R39). -/
def execReadCar (p : Port) (s : State) : Host.Outcome State Fault Refusal := serve .readCar p readCar s

end Sys2Proof.Machine
end

