-- ==== Sys2Proof/Machine/EventCommands.lean ====
section
/-! DEFINITION. The event requests, each on the asking port's own queue, mask, flags and drop count (R189,
R193, R194, R196). -/

namespace Sys2Proof.Machine

/-- READ EVENTS's owner: up to 8 records leave the head of the queue; FULL while the drop count is above 0
(R189, R193). -/
def readEvents (p : Port) (s : State) : State × Reply :=
  let q := s.events.get p
  (s.modifyEvents p fun q => { q with queue := q.queue.drop 8 },
    { status := if 0 < q.drops then .full else .ok, body := eventsReply q.queue })

/-- READ_EVENTS (R193). -/
def execReadEvents (p : Port) (s : State) : Host.Outcome State Fault Refusal :=
  serve .readEvents p (fun _ => readEvents p) s

/-- SET EVENT MASK's owner: the two-byte mask, bits 8:0, replaces the port's (R194). -/
def setMask (p : Port) (body : List Byte) (s : State) : State × Reply :=
  match body with
  | [lo, hi] => accept (s.modifyEvents p fun q => { q with mask := hi.setWidth 1 ++ lo })
  | _ => refuse .format s

/-- SET_EVENT_MASK (R194). -/
def execSetEventMask (p : Port) (s : State) : Host.Outcome State Fault Refusal :=
  serve .setEventMask p (setMask p) s

/-- CLEAR FLAGS's owner (R196). -/
def clearFlags (p : Port) (body : List Byte) (s : State) : State × Reply :=
  match body with
  | [mask] => accept (s.modifyEvents p fun q => { q with flags := q.flags.keep mask })
  | _ => refuse .format s

/-- CLEAR_FLAGS (R196). -/
def execClearFlags (p : Port) (s : State) : Host.Outcome State Fault Refusal :=
  serve .clearFlags p (clearFlags p) s

/-- CLEAR QUEUE's owner: the queue is emptied and the drop count zeroed, mask and flags kept (R193). -/
def clearQueue (p : Port) (s : State) : State × Reply :=
  accept (s.modifyEvents p fun q => { q with queue := [], drops := 0 })

/-- CLEAR_QUEUE (R193). -/
def execClearQueue (p : Port) (s : State) : Host.Outcome State Fault Refusal :=
  serve .clearQueue p (fun _ => clearQueue p) s

end Sys2Proof.Machine
end

