-- ==== Sys2Proof/Machine/HandsetCommands.lean ====
section
/-! DEFINITION. The handset requests (R43, R45, R46, R49, R52, R59). -/

namespace Sys2Proof.Machine

/-- WRITE CALIBRATION's owner: BUSY, then RANGE; the stored step is not recomputed (R52). -/
def writeCalibration (body : List Byte) (s : State) : State × Reply :=
  match body with
  | [number, zLo, zHi, fLo, fHi, bLo, bHi] =>
    let k : Calibration := { zero := number2 zLo zHi, full := number2 fLo fHi, deadband := number2 bLo bHi }
    if s.storeBusy then refuse .busy s
    else
      match numbered 16 number with
      | some h =>
        if k.inRange h then accept (s.modifyHandset h fun r => { r with calibration := k }) else refuse .range s
      | none => refuse .range s
  | _ => refuse .format s

/-- WRITE_CALIBRATION (R52). -/
def execWriteCalibration (p : Port) (s : State) : Host.Outcome State Fault Refusal :=
  serve .writeCalibration p writeCalibration s

/-- The effects of an accepted SET SCAN: the scanner restarted, and each wired handset outside the new set
set ABSENT (R43, R45). DESIGN CHOICE: in ascending handset number, an order R45 leaves open (log entry 32). -/
def applyScan (setCode intervalCode : Nat) (s : State) : State :=
  (outsideScanSet setCode).foldl (fun s h => leaveScanSet h s) (restartScanner setCode intervalCode s)

/-- SET SCAN's owner: BUSY, then RANGE (R43, R185). -/
def setScan (body : List Byte) (s : State) : State × Reply :=
  match body with
  | [setCode, intervalCode] =>
    if s.storeBusy then refuse .busy s
    else if !scanInRange setCode.toNat intervalCode.toNat then refuse .range s
    else accept (applyScan setCode.toNat intervalCode.toNat s)
  | _ => refuse .format s

/-- SET_SCAN (R43). -/
def execSetScan (p : Port) (s : State) : Host.Outcome State Fault Refusal := serve .setScan p setScan s

/-- READ RAW's owner: the latch as it stood, and then FRESH cleared (R46). -/
def readRaw (body : List Byte) (s : State) : State × Reply :=
  match body with
  | [number] =>
    match numbered 8 number with
    | some ch =>
      report (rawReply s.scanner.latches[ch])
        { s with scanner := { s.scanner with
          latches := update s.scanner.latches ch fun x => { x with fresh := false } } }
    | none => refuse .range s
  | _ => refuse .format s

/-- READ_RAW (R46). -/
def execReadRaw (p : Port) (s : State) : Host.Outcome State Fault Refusal := serve .readRaw p readRaw s

/-- READ HANDSET's owner (R59). -/
def readHandset (body : List Byte) (s : State) : State × Reply :=
  match body with
  | [number] =>
    match numbered 16 number with
    | some h => report (handsetReply h s.handsets[h]) s
    | none => refuse .range s
  | _ => refuse .format s

/-- READ_HANDSET (R59). -/
def execReadHandset (p : Port) (s : State) : Host.Outcome State Fault Refusal :=
  serve .readHandset p readHandset s

/-- A sample's handset, when it names a radio handset 8–15 (R49). -/
def radioHandset (b : Byte) : Option HandsetNo :=
  match numbered 16 b with
  | some h => if isWired h then none else some h
  | none => none

/-- The samples of a POST SAMPLES body applied in body order; those naming no radio handset are skipped
(R49, R50). -/
def takeSamples (samples : List Byte) (s : State) : State :=
  match samples with
  | h :: throttle :: pressed :: rest =>
    takeSamples rest
      (match radioHandset h with
        | some h => takeSample h throttle.toNat (isYes pressed) s
        | none => s)
  | _ => s

/-- How many samples of a body are accepted, and how many skipped (R49). -/
def countSamples (samples : List Byte) : Nat × Nat :=
  match samples with
  | h :: _ :: _ :: rest =>
    let n := countSamples rest
    if (radioHandset h).isSome then (n.1 + 1, n.2) else (n.1, n.2 + 1)
  | _ => (0, 0)

/-- POST SAMPLES's owner (R49). -/
def postSamples (body : List Byte) (s : State) : State × Reply :=
  let n := countSamples body.tail
  report [byte n.1, byte n.2] (takeSamples body.tail s)

/-- POST_SAMPLES (R49). -/
def execPostSamples (p : Port) (s : State) : Host.Outcome State Fault Refusal :=
  serve .postSamples p postSamples s

end Sys2Proof.Machine
end

