-- ==== Sys2Proof/Machine/MapCommands.lean ====
section
/-! DEFINITION. The map requests (R2, R4, R7, R8, R15, R16, R18, R128). -/

namespace Sys2Proof.Machine

/-- The checks every map write shares (R16): STATE outside SETUP, BUSY while SSI works, RANGE; a write that
passes them is stored by `store`, has the effects of R17 and is answered OK. -/
def mapWrite (inRange : Bool) (store : State → State) (s : State) : State × Reply :=
  if s.race ≠ .setup then refuse .state s
  else if s.storeBusy then refuse .busy s
  else if !inRange then refuse .range s
  else accept (store s)

/-- A segment record stored, with the effects of a map write (R2, R17). -/
def storeSegment (n : Fin 64) (r : Segment) (s : State) : State :=
  mapWriteEffects { s with map := { s.map with segments := update s.map.segments n fun _ => r } }

/-- WRITE SEGMENT's owner (R2). -/
def writeSegment (body : List Byte) (s : State) : State × Reply :=
  match body with
  | [number, used, lane, lengthLo, lengthHi, next] =>
    let r : Segment :=
      { used := isYes used, lane := lane.toNat, length := number2 lengthLo lengthHi, next := next.toNat }
    match numbered 64 number with
    | some n => mapWrite r.inRange (storeSegment n r) s
    | none => mapWrite false id s
  | _ => refuse .format s

/-- WRITE_SEGMENT (R2). -/
def execWriteSegment (p : Port) (s : State) : Host.Outcome State Fault Refusal :=
  serve .writeSegment p writeSegment s

/-- READ SEGMENT's owner (R18). -/
def readSegment (body : List Byte) (s : State) : State × Reply :=
  match body with
  | [number] =>
    match numbered 64 number with
    | some n => report (s.map.segments[n]).bytes s
    | none => refuse .range s
  | _ => refuse .format s

/-- READ_SEGMENT (R18). -/
def execReadSegment (p : Port) (s : State) : Host.Outcome State Fault Refusal :=
  serve .readSegment p readSegment s

/-- A switch record stored, with the effects of a map write, its runtime record and node following its used
field, and the loop started if it was idle (R4, R17, R130, R133, R145). -/
def storeSwitch (j : SwitchNo) (r : Switch) (s : State) : State :=
  let before := (s.map.switch j).used
  let s := mapWriteEffects { s with map := { s.map with switches := update s.map.switches j fun _ => r } }
  wakeLoop (followSwitchUse before r.used j s)

/-- WRITE SWITCH's owner (R4). -/
def writeSwitch (body : List Byte) (s : State) : State × Reply :=
  match body with
  | [number, used, home, thrown, entryLo, entryHi, straightLo, straightHi, thrownLo, thrownHi, zoneLo, zoneHi,
      group, actuationLo, actuationHi] =>
    let r : Switch :=
      { used := isYes used, home := home.toNat, thrown := thrown.toNat, entryOffset := number2 entryLo entryHi,
        exitStraightOffset := number2 straightLo straightHi, exitThrownOffset := number2 thrownLo thrownHi,
        zoneLength := number2 zoneLo zoneHi, group := numberOrNone group,
        actuation := number2 actuationLo actuationHi }
    match numbered 24 number with
    | some j => mapWrite r.inRange (storeSwitch j r) s
    | none => mapWrite false id s
  | _ => refuse .format s

/-- WRITE_SWITCH (R4). -/
def execWriteSwitch (p : Port) (s : State) : Host.Outcome State Fault Refusal :=
  serve .writeSwitch p writeSwitch s

/-- READ SWITCH's owner (R18, R128). -/
def readSwitch (body : List Byte) (s : State) : State × Reply :=
  match body with
  | [number] =>
    match numbered 24 number with
    | some j => report (switchReply s j) s
    | none => refuse .range s
  | _ => refuse .format s

/-- READ_SWITCH (R128). -/
def execReadSwitch (p : Port) (s : State) : Host.Outcome State Fault Refusal :=
  serve .readSwitch p readSwitch s

/-- A gate record stored, with the effects of a map write, its node following its used field, and the loop
started if it was idle (R7, R17, R133, R145). -/
def storeGate (g : Fin 16) (r : Gate) (s : State) : State :=
  let before := (s.map.gate g.val).used
  let s := mapWriteEffects { s with map := { s.map with gates := update s.map.gates g fun _ => r } }
  wakeLoop (followGateUse before r.used g s)

/-- WRITE GATE's owner (R7). -/
def writeGate (body : List Byte) (s : State) : State × Reply :=
  match body with
  | [number, used, segment, offsetLo, offsetHi] =>
    let r : Gate := { used := isYes used, segment := segment.toNat, offset := number2 offsetLo offsetHi }
    match numbered 16 number with
    | some g => mapWrite r.inRange (storeGate g r) s
    | none => mapWrite false id s
  | _ => refuse .format s

/-- WRITE_GATE (R7). -/
def execWriteGate (p : Port) (s : State) : Host.Outcome State Fault Refusal := serve .writeGate p writeGate s

/-- READ GATE's owner (R18). -/
def readGate (body : List Byte) (s : State) : State × Reply :=
  match body with
  | [number] =>
    match numbered 16 number with
    | some g => report (gateReply s.map g) s
    | none => refuse .range s
  | _ => refuse .format s

/-- READ_GATE (R18). -/
def execReadGate (p : Port) (s : State) : Host.Outcome State Fault Refusal := serve .readGate p readGate s

/-- SET PAIRING GATE's owner (R8). -/
def setPairingGate (body : List Byte) (s : State) : State × Reply :=
  match body with
  | [gate] =>
    mapWrite (pairingGateInRange (numberOrNone gate))
      (fun s => mapWriteEffects { s with map := { s.map with pairingGate := numberOrNone gate } }) s
  | _ => refuse .format s

/-- SET_PAIRING_GATE (R8). -/
def execSetPairingGate (p : Port) (s : State) : Host.Outcome State Fault Refusal :=
  serve .setPairingGate p setPairingGate s

/-- VALIDATE MAP's owner: refused with BUSY while SSI is LOADING, taken while it is SAVING (R15). -/
def validateMap (s : State) : State × Reply :=
  if s.store = .loading then refuse .busy s
  else report (validationReply s.map.validate) (runValidation s)

/-- VALIDATE_MAP (R15). -/
def execValidateMap (p : Port) (s : State) : Host.Outcome State Fault Refusal :=
  serve .validateMap p (fun _ => validateMap) s

end Sys2Proof.Machine
end

