-- ==== Sys2Proof/Machine/PairingCommands.lean ====
section
/-! DEFINITION. The pairing requests (R74, R75, R78). -/

namespace Sys2Proof.Machine

/-- BIND's checks after the numbers: BUSY, CONFLICT with the two holders, RANGE for a disabled car; then the
handset leaves any seek and is bound with source CONSOLE (R74). -/
def bindPair (h : HandsetNo) (c : CarNo) (s : State) : State × Reply :=
  if s.storeBusy then refuse .busy s
  else if s.handsets[h].pairing.car.isSome || s.cars[c].binding.isSome then
    (s, { status := .conflict,
          body := [byteOrNone (carNumber s.handsets[h].pairing.car), byteOrNone (s.cars[c].binding.map Fin.val)] })
  else if !s.cars[c].profile.enabled then refuse .range s
  else accept (makeBinding h c .console (leaveQueue h s))

/-- BIND's owner (R74). -/
def bindRequest (body : List Byte) (s : State) : State × Reply :=
  match body with
  | [handset, car] =>
    match numbered 16 handset, numbered 12 car with
    | some h, some c => bindPair h c s
    | _, _ => refuse .range s
  | _ => refuse .format s

/-- BIND (R74). -/
def execBind (p : Port) (s : State) : Host.Outcome State Fault Refusal := serve .bind p bindRequest s

/-- A seek cancelled by UNBIND: the handset leaves the queue, becomes IDLE, and UNBOUND is raised with car
NONE (R75). -/
def cancelSeek (h : HandsetNo) (s : State) : State :=
  raise (.unbound h none .console) (setPairing h .idle (leaveQueue h s))

/-- UNBIND by the handset's pairing state (R75). -/
def unbindHandset (h : HandsetNo) (s : State) : State × Reply :=
  if s.storeBusy then refuse .busy s
  else
    match s.handsets[h].pairing with
    | .bound c => accept (dissolve h c .console s)
    | .seeking => accept (cancelSeek h s)
    | .idle => (s, Reply.bare .noChange)

/-- UNBIND's owner (R75). -/
def unbindRequest (body : List Byte) (s : State) : State × Reply :=
  match body with
  | [handset] =>
    match numbered 16 handset with
    | some h => unbindHandset h s
    | none => refuse .range s
  | _ => refuse .format s

/-- UNBIND (R75). -/
def execUnbind (p : Port) (s : State) : Host.Outcome State Fault Refusal := serve .unbind p unbindRequest s

/-- READ PAIRING's owner (R78). -/
def readPairing (s : State) : State × Reply := report (pairingReply s) s

/-- READ_PAIRING (R78). -/
def execReadPairing (p : Port) (s : State) : Host.Outcome State Fault Refusal :=
  serve .readPairing p (fun _ => readPairing) s

end Sys2Proof.Machine
end

