-- ==== Sys2Proof/Machine/PortCommands.lean ====
section
/-! DEFINITION. The port's side of a transaction: the fall of chip select, bytes, unknown requests, IDENTIFY and STATUS
(R177 to R180, R186, R187). -/

namespace Sys2Proof.Machine

/-- A port's chip select falls: an idle port enters RECEIVING with no byte received (R176, R177). -/
def selectPort (x : PortState) : PortState :=
  if x.phase = .idle then { x with phase := .receiving, request := none, reply := none, filler := 0 } else x

/-- CHIP_SELECT_FALL (R177). -/
def execChipSelectFall (p : Port) (s : State) : Host.Outcome State Fault Refusal :=
  whenRunning s fun s => s.modifyPort p selectPort

/-- The rise of chip select on a port's own state: the counts of R179's table, then IDLE with the request and
reply in progress dropped. -/
def deselectPort (x : PortState) : PortState :=
  { x with
    phase := .idle
    request := none
    reply := none
    aborted := if x.phase = .receiving ∧ x.request.isSome then bump 255 x.aborted else x.aborted
    cut := if x.phase = .taking ∨ x.phase = .replying then bump 255 x.cut else x.cut }

/-- The request in progress has ended with the length byte or the last body byte (R177). -/
def Frame.hasEnded (f : Frame) : Bool :=
  match f.length with
  | none => false
  | some n => 60 < n.toNat || n.toNat ≤ f.body.length

/-- A byte taken into the request in progress: the code, then the length, then the body (R177). -/
def addByte (f : Option Frame) (b : Byte) : Frame :=
  match f with
  | none => { code := b, length := none, body := [] }
  | some f =>
    match f.length with
    | none => { f with length := some b }
    | some _ => { f with body := f.body ++ [b] }

/-- RECEIVING: FFh is sent for the byte, which is taken; the port enters TAKING when the frame ends (R177,
R178). -/
def receiveByte (x : PortState) (b : Byte) : PortState :=
  let f := addByte x.request b
  { x with request := some f, miso := 0xFF, phase := if f.hasEnded then .taking else .receiving }

/-- REPLYING: the next byte of the reply frame is sent, and the last one moves the port to DONE (R178). -/
def sendByte (x : PortState) : PortState :=
  match x.reply with
  | none => { x with miso := 0xFF }
  | some r =>
    { x with
      miso := r.bytes.getD r.sent 0xFF
      reply := some { r with sent := r.sent + 1 }
      phase := if r.bytes.length ≤ r.sent + 1 then .done else .replying }

/-- A byte clocked by the master, by the port's phase: filler FFh in TAKING, where it is counted, and in DONE,
and nothing with chip select high (R177, R178). A window whose transaction a power-on reset has ended also
stands IDLE: its bytes do nothing and leave MISO as it stood. DESIGN CHOICE (log entry 34). -/
def clockByte (b : Byte) (x : PortState) : PortState :=
  match x.phase with
  | .idle => x
  | .receiving => receiveByte x b
  | .replying => sendByte x
  | .taking => { x with miso := 0xFF, filler := bump 16 x.filler }
  | .done => { x with miso := 0xFF }

/-- UNKNOWN_REQUEST (R180). -/
def execUnknownRequest (p : Port) (s : State) : Host.Outcome State Fault Refusal := serveUnknown p s

/-- IDENTIFY's owner (R186). -/
def identify (p : Port) (s : State) : State × Reply := report (identifyReply p (portRole p)) s

/-- IDENTIFY (R186). -/
def execIdentify (p : Port) (s : State) : Host.Outcome State Fault Refusal :=
  serve .identify p (fun _ => identify p) s

/-- STATUS's owner (R187). -/
def readStatus (p : Port) (s : State) : State × Reply := report (statusReply s p) s

/-- STATUS (R187). -/
def execStatus (p : Port) (s : State) : Host.Outcome State Fault Refusal :=
  serve .status p (fun _ => readStatus p) s

end Sys2Proof.Machine
end

