-- ==== Sys2Proof/Machine/Race.lean ====
section
/-! DEFINITION. RSC: race-state transitions, the warm restart and rail faults (Chapter 9). -/

namespace Sys2Proof.Machine

/-- The race state changes and RACE_STATE is raised with the cause (R171). -/
def changeRace (x : RaceState) (cause : RaceCause) (s : State) : State :=
  raise (.raceState s.race x cause) { s with race := x }

/-- A transition to HALT (R166): the state, every intent to NONE, every reservation list revoked. -/
def haltRace (cause : RaceCause) (s : State) : State :=
  revokeAllLists (clearIntents (changeRace .halt cause s))

/-- The warm restart of R167, steps 1 to 4: lists emptied silently, and the cars as R41 gives. -/
def warmRestart (s : State) : State :=
  { s with lists := updateAll s.lists fun _ _ => [], cars := updateAll s.cars fun _ => Car.warmRestart }

/-- RAIL FAULT taken (R169): the hold set, the flag on every port, RAIL_FAULT raised, and a race in RUN or
CAUTION moved to HALT. -/
def takeRailFault (s : State) : State :=
  let found := s.race
  let s := flagAllPorts (fun f => { f with railFault := true }) { s with railHold := true }
  let s := raise (.railFault found) s
  match found with
  | .run | .caution => haltRace .rail s
  | .setup | .halt => s

end Sys2Proof.Machine
end

