-- ==== Sys2Proof/Machine/RaceCommands.lean ====
section
/-! DEFINITION. SET RACE STATE, target by target, RAIL FAULT and RAIL CLEAR (R163 to R170). -/

namespace Sys2Proof.Machine

/-- A target that R163's table does not carry out from the state found: discarded and answered NOCHANGE. -/
def noChange (s : State) : State × Reply := (s, Reply.bare .noChange)

/-- The tests of START and RESUME in R164's order: BUSY, then a validation taken, then the rail hold; when
all pass, the race enters RUN as `enter` gives. -/
def enterRun (enter : State → State) (s : State) : State × Reply :=
  if s.storeBusy then refuse .busy s
  else
    let s := runValidation s
    if !s.mapValid then (s, { status := .state, body := [0x01] })
    else if s.railHold then (s, { status := .state, body := [0x02] })
    else accept (enter s)

/-- START's owner (R163, R164). -/
def startRace (s : State) : State × Reply :=
  match s.race with
  | .setup => enterRun (changeRace .run .start) s
  | .run | .caution | .halt => noChange s

/-- START (R164). -/
def execStart (p : Port) (s : State) : Host.Outcome State Fault Refusal := serve .start p (fun _ => startRace) s

/-- CAUTION's owner: from RUN, every intent is cleared (R165). -/
def cautionRace (s : State) : State × Reply :=
  match s.race with
  | .run => accept (clearIntents (changeRace .caution .caution s))
  | .setup | .caution | .halt => noChange s

/-- CAUTION (R165). -/
def execCaution (p : Port) (s : State) : Host.Outcome State Fault Refusal :=
  serve .caution p (fun _ => cautionRace) s

/-- CLEAR CAUTION's owner: from CAUTION, no warm restart (R165). -/
def clearCautionRace (s : State) : State × Reply :=
  match s.race with
  | .caution => accept (changeRace .run .clearCaution s)
  | .setup | .run | .halt => noChange s

/-- CLEAR_CAUTION (R165). -/
def execClearCaution (p : Port) (s : State) : Host.Outcome State Fault Refusal :=
  serve .clearCaution p (fun _ => clearCautionRace) s

/-- HALT's owner, from any state but HALT (R163, R166). -/
def haltRequest (s : State) : State × Reply :=
  match s.race with
  | .halt => noChange s
  | .setup | .run | .caution => accept (haltRace .halt s)

/-- HALT (R166). -/
def execHalt (p : Port) (s : State) : Host.Outcome State Fault Refusal := serve .halt p (fun _ => haltRequest) s

/-- RESUME's owner: from HALT, RUN with a warm restart (R167). -/
def resumeRace (s : State) : State × Reply :=
  match s.race with
  | .halt => enterRun (fun s => changeRace .run .resume (warmRestart s)) s
  | .setup | .run | .caution => noChange s

/-- RESUME (R167). -/
def execResume (p : Port) (s : State) : Host.Outcome State Fault Refusal := serve .resume p (fun _ => resumeRace) s

/-- SETUP's owner, from HALT (R168). -/
def setupRace (s : State) : State × Reply :=
  match s.race with
  | .halt => accept (changeRace .setup .setup s)
  | .setup | .run | .caution => noChange s

/-- SETUP (R168). -/
def execSetup (p : Port) (s : State) : Host.Outcome State Fault Refusal := serve .setup p (fun _ => setupRace) s

/-- A target that is none of the six is refused with RANGE (R163). -/
def refuseTarget (s : State) : State × Reply := refuse .range s

/-- SET_RACE_STATE_BAD_TARGET (R163). -/
def execSetRaceStateBadTarget (p : Port) (s : State) : Host.Outcome State Fault Refusal :=
  serve .badTarget p (fun _ => refuseTarget) s

/-- RAIL FAULT's owner (R169). -/
def railFault (s : State) : State × Reply := accept (takeRailFault s)

/-- RAIL_FAULT (R169). -/
def execRailFault (p : Port) (s : State) : Host.Outcome State Fault Refusal :=
  serve .railFault p (fun _ => railFault) s

/-- RAIL CLEAR's owner (R170). -/
def clearRail (s : State) : State × Reply :=
  if s.railHold then accept (raise (.railClear s.race) { s with railHold := false }) else noChange s

/-- RAIL_CLEAR (R170). -/
def execRailClear (p : Port) (s : State) : Host.Outcome State Fault Refusal :=
  serve .railClear p (fun _ => clearRail) s

end Sys2Proof.Machine
end

