-- ==== Sys2Proof/Machine/SettingsCommands.lean ====
section
/-! DEFINITION. Frame, limit, image and restart requests (R152, R158, R174, R188, R199, R200). -/

namespace Sys2Proof.Machine

/-- FETCH FRAME's owner: STATE before the first publication; else the frame, and then the fetched mark is
set and frame-pending cleared (R158). -/
def fetchFrame (s : State) : State × Reply :=
  match s.frames.published with
  | none => refuse .state s
  | some x =>
    report (frameReply s.frames x) { s with frames := { s.frames with fetched := true, framePending := false } }

/-- FETCH_FRAME (R158). -/
def execFetchFrame (p : Port) (s : State) : Host.Outcome State Fault Refusal :=
  serve .fetchFrame p (fun _ => fetchFrame) s

/-- SET CYCLE TRIM's owner: BUSY, then RANGE; the trim applies from the next cycle start (R152). -/
def setCycleTrim (body : List Byte) (s : State) : State × Reply :=
  match body with
  | [trim] =>
    if s.storeBusy then refuse .busy s
    else if 63 < trim.toNat then refuse .range s
    else accept { s with frames := { s.frames with trim := trim.toNat } }
  | _ => refuse .format s

/-- SET_CYCLE_TRIM (R152). -/
def execSetCycleTrim (p : Port) (s : State) : Host.Outcome State Fault Refusal :=
  serve .setCycleTrim p setCycleTrim s

/-- SET LIMITS's owner: STATE for a changed guard time outside SETUP, BUSY, RANGE (R188). -/
def setLimits (body : List Byte) (s : State) : State × Reply :=
  match body with
  | [guardLo, guardHi, intentHold, cautionStep, paceStep, satEvents] =>
    let l : Limits :=
      { guardTime := number2 guardLo guardHi, intentHold := intentHold.toNat, cautionStep := cautionStep.toNat,
        paceStep := paceStep.toNat, satEvents := isYes satEvents }
    if s.race ≠ .setup ∧ l.guardTime ≠ s.limits.guardTime then refuse .state s
    else if s.storeBusy then refuse .busy s
    else if !l.inRange then refuse .range s
    else accept { s with limits := l }
  | _ => refuse .format s

/-- SET_LIMITS (R188). -/
def execSetLimits (p : Port) (s : State) : Host.Outcome State Fault Refusal := serve .setLimits p setLimits s

/-- The checks of SAVE IMAGE and LOAD IMAGE: STATE outside SETUP, BUSY while SSI is not IDLE (R199, R200). -/
def storeRequest (begin_ : State → State) (s : State) : State × Reply :=
  if s.race ≠ .setup then refuse .state s
  else if s.storeBusy then refuse .busy s
  else accept (begin_ s)

/-- SAVE IMAGE's owner (R199). -/
def saveImage (s : State) : State × Reply := storeRequest beginSave s

/-- SAVE_IMAGE (R199). -/
def execSaveImage (p : Port) (s : State) : Host.Outcome State Fault Refusal :=
  serve .saveImage p (fun _ => saveImage) s

/-- LOAD IMAGE's owner (R200). -/
def loadImage (s : State) : State × Reply := storeRequest (fun s => { s with store := .loading }) s

/-- LOAD_IMAGE (R200). -/
def execLoadImage (p : Port) (s : State) : Host.Outcome State Fault Refusal :=
  serve .loadImage p (fun _ => loadImage) s

/-- RESTART's owner: BUSY while SSI works; else answered OK, to be carried out at the rise of chip select
(R174). -/
def acceptRestart (s : State) : State × Reply :=
  if s.storeBusy then refuse .busy s else accept { s with restartAccepted := true }

/-- RESTART (R174). -/
def execRestart (p : Port) (s : State) : Host.Outcome State Fault Refusal :=
  serve .restart p (fun _ => acceptRestart) s

end Sys2Proof.Machine
end

