-- ==== Sys2Proof/Machine/SwitchCommands.lean ====
section
/-! DEFINITION. The console's switch requests and READ NODE (R121 to R124, R148). -/

namespace Sys2Proof.Machine

/-- The checks of R121: a number above 23 is refused with RANGE, a switch that is not used with STATE. -/
def switchRequest (act : SwitchNo → State → State × Reply) (body : List Byte) (s : State) : State × Reply :=
  match body with
  | [number] =>
    match numbered 24 number with
    | some j => if (s.map.switch j).used then act j s else refuse .state s
    | none => refuse .range s
  | _ => refuse .format s

/-- A switch becomes LOCKED: SW_STATE with cause LOCK, and then the list is revoked with cause LOCK (R122). -/
def becomeLocked (j : SwitchNo) (s : State) : State := revokeList .lock j (changeState j .locked .lock s)

/-- LOCK SWITCH by the switch's state (R122). -/
def lockSwitch (j : SwitchNo) (s : State) : State × Reply :=
  match s.switches[j].state with
  | .straight => accept (becomeLocked j s)
  | .throwing | .thrown | .returning => accept (becomeLocked j (commandPosition j .straight s))
  | .locked | .fault => (s, Reply.bare .noChange)

/-- LOCK_SWITCH (R122). -/
def execLockSwitch (p : Port) (s : State) : Host.Outcome State Fault Refusal :=
  serve .lockSwitch p (switchRequest lockSwitch) s

/-- UNLOCK SWITCH: STRAIGHT when the confirmed position is STRAIGHT with no deadline pending, RETURNING
otherwise (R123). -/
def unlockSwitch (j : SwitchNo) (s : State) : State × Reply :=
  let r := s.switches[j]
  match r.state with
  | .locked =>
    if r.confirmed = .straight ∧ r.deadline = none then accept (changeState j .straight .unlock s)
    else accept (changeState j .returning .unlock s)
  | .straight | .throwing | .thrown | .returning | .fault => (s, Reply.bare .noChange)

/-- UNLOCK_SWITCH (R123). -/
def execUnlockSwitch (p : Port) (s : State) : Host.Outcome State Fault Refusal :=
  serve .unlockSwitch p (switchRequest unlockSwitch) s

/-- CLEAR SWITCH: refused with STATE while the node is in FAULT, else STRAIGHT commanded and RETURNING
(R124). -/
def clearSwitch (j : SwitchNo) (s : State) : State × Reply :=
  match s.switches[j].state with
  | .fault =>
    if s.loop.nodes[switchNode j].state = .fault then refuse .state s
    else accept (changeState j .returning .clear (commandPosition j .straight s))
  | .straight | .throwing | .thrown | .returning | .locked => (s, Reply.bare .noChange)

/-- CLEAR_SWITCH (R124). -/
def execClearSwitch (p : Port) (s : State) : Host.Outcome State Fault Refusal :=
  serve .clearSwitch p (switchRequest clearSwitch) s

/-- READ NODE's owner (R148). -/
def readNode (body : List Byte) (s : State) : State × Reply :=
  match body with
  | [number] =>
    match numbered 40 number with
    | some a => report (nodeReply s a) s
    | none => refuse .range s
  | _ => refuse .format s

/-- READ_NODE (R148). -/
def execReadNode (p : Port) (s : State) : Host.Outcome State Fault Refusal := serve .readNode p readNode s

end Sys2Proof.Machine
end

