-- ==== Sys2Proof/Machine/Taking.lean ====
section
/-! DEFINITION. Whose an ended frame is: its row, its owner and its command; and the rise of chip select,
which finds an ended frame taken (R178, R179, R185). -/

namespace Sys2Proof.Machine

/-- Every request row. -/
def requests : List Request :=
  [.identify, .status, .readEvents, .setEventMask, .clearFlags, .clearQueue,
   .start, .caution, .clearCaution, .halt, .resume, .setup, .badTarget, .railFault, .railClear,
   .writeSegment, .readSegment, .writeSwitch, .readSwitch, .writeGate, .readGate, .setPairingGate,
   .validateMap, .writeProfile, .readCar, .writeCalibration, .setScan, .readRaw, .readHandset, .postSamples,
   .bind, .unbind, .readPairing, .lockSwitch, .unlockSwitch, .clearSwitch, .readNode,
   .fetchFrame, .setCycleTrim, .setLimits, .saveImage, .loadImage, .restart]

/-- The row an ended frame belongs to, or `none` for a code outside the catalogue. -/
def requestOf (f : Frame) : Option Request := requests.find? (·.owns f)

/-- The owner of each row: what it makes of the body, its effects and its reply. -/
def ownerOf (p : Port) (x : Request) : List Byte → State → State × Reply :=
  match x with
  | .identify => fun _ => identify p
  | .status => fun _ => readStatus p
  | .readEvents => fun _ => readEvents p
  | .setEventMask => setMask p
  | .clearFlags => clearFlags p
  | .clearQueue => fun _ => clearQueue p
  | .start => fun _ => startRace
  | .caution => fun _ => cautionRace
  | .clearCaution => fun _ => clearCautionRace
  | .halt => fun _ => haltRequest
  | .resume => fun _ => resumeRace
  | .setup => fun _ => setupRace
  | .badTarget => fun _ => refuseTarget
  | .railFault => fun _ => railFault
  | .railClear => fun _ => clearRail
  | .writeSegment => writeSegment
  | .readSegment => readSegment
  | .writeSwitch => writeSwitch
  | .readSwitch => readSwitch
  | .writeGate => writeGate
  | .readGate => readGate
  | .setPairingGate => setPairingGate
  | .validateMap => fun _ => validateMap
  | .writeProfile => writeProfile
  | .readCar => readCar
  | .writeCalibration => writeCalibration
  | .setScan => setScan
  | .readRaw => readRaw
  | .readHandset => readHandset
  | .postSamples => postSamples
  | .bind => bindRequest
  | .unbind => unbindRequest
  | .readPairing => fun _ => readPairing
  | .lockSwitch => switchRequest lockSwitch
  | .unlockSwitch => switchRequest unlockSwitch
  | .clearSwitch => switchRequest clearSwitch
  | .readNode => readNode
  | .fetchFrame => fun _ => fetchFrame
  | .setCycleTrim => setCycleTrim
  | .setLimits => setLimits
  | .saveImage => fun _ => saveImage
  | .loadImage => fun _ => loadImage
  | .restart => fun _ => acceptRestart

/-- The command that a row's request on a port is. -/
def Request.instr (x : Request) (p : Port) : Instr :=
  match x with
  | .identify => .identify p
  | .status => .status p
  | .readEvents => .readEvents p
  | .setEventMask => .setEventMask p
  | .clearFlags => .clearFlags p
  | .clearQueue => .clearQueue p
  | .start => .start p
  | .caution => .caution p
  | .clearCaution => .clearCaution p
  | .halt => .halt p
  | .resume => .resume p
  | .setup => .setup p
  | .badTarget => .setRaceStateBadTarget p
  | .railFault => .railFault p
  | .railClear => .railClear p
  | .writeSegment => .writeSegment p
  | .readSegment => .readSegment p
  | .writeSwitch => .writeSwitch p
  | .readSwitch => .readSwitch p
  | .writeGate => .writeGate p
  | .readGate => .readGate p
  | .setPairingGate => .setPairingGate p
  | .validateMap => .validateMap p
  | .writeProfile => .writeProfile p
  | .readCar => .readCar p
  | .writeCalibration => .writeCalibration p
  | .setScan => .setScan p
  | .readRaw => .readRaw p
  | .readHandset => .readHandset p
  | .postSamples => .postSamples p
  | .bind => .bind p
  | .unbind => .unbind p
  | .readPairing => .readPairing p
  | .lockSwitch => .lockSwitch p
  | .unlockSwitch => .unlockSwitch p
  | .clearSwitch => .clearSwitch p
  | .readNode => .readNode p
  | .fetchFrame => .fetchFrame p
  | .setCycleTrim => .setCycleTrim p
  | .setLimits => .setLimits p
  | .saveImage => .saveImage p
  | .loadImage => .loadImage p
  | .restart => .restart p

/-- The command that takes an ended frame on a port. -/
def requestCommand (p : Port) (f : Frame) : Instr :=
  match requestOf f with
  | some x => x.instr p
  | none => .unknownRequest p

/-- An ended frame that has not been taken is taken by its owner, whichever row it is (R178, R180). -/
def takeEndedFrame (p : Port) (s : State) : State :=
  match endedFrame p s with
  | none => s
  | some f =>
    match requestOf f with
    | some x => answerFrame x p (ownerOf p x) f s
    | none => enterReplying p (Reply.bare .unknown) s

/-- The rise of chip select: a frame that has ended is taken, its effects standing whatever the line does
(R178, R179); then the port's transaction ends; and on the console port an accepted RESTART is carried out
(R174), whose reset samples the straps afresh (log entry 16). DEDUCED for the frame still to be taken (log
entry 19). -/
def raiseSelect (p : Port) (s : State) : State :=
  let s := (takeEndedFrame p s).modifyPort p deselectPort
  if p = .console ∧ s.restartAccepted then
    powerOn (Config.restartStraps s.picks) { s with picks := s.picks + 1 }
  else s

/-- CHIP_SELECT_RISE (R179). -/
def execChipSelectRise (p : Port) (s : State) : Host.Outcome State Fault Refusal :=
  whenRunning s (raiseSelect p)

/-- A byte clocked into a port. When 16 filler bytes have been clocked since the frame ended, the reply is ready
before the next one, so an ended frame still to be taken is taken first (R178). DEDUCED (log entry 19). -/
def clockPort (p : Port) (b : Byte) (s : State) : State :=
  let x := s.ports.get p
  let s := if x.phase = .taking ∧ 16 ≤ x.filler then takeEndedFrame p s else s
  s.modifyPort p (clockByte b)

/-- MASTER_SENDS_BYTE (R177, R178). -/
def execMasterSendsByte (p : Port) (b : Byte) (s : State) : Host.Outcome State Fault Refusal :=
  whenRunning s (clockPort p b)

end Sys2Proof.Machine
end

