-- ==== Sys2Proof/Machine/Clock.lean ====
section
/-! DEFINITION. What the part takes of its own accord while no command waits: ended frames and expiries
that are due, and otherwise the passing of 25 µs (log entry 5). -/

namespace Sys2Proof.Machine

/-- The requests whose frames have ended and wait to be taken, one a port at most (R178). -/
def dueRequests (s : State) : List Instr :=
  [Port.base, Port.console, Port.radio].filterMap fun p => (endedFrame p s).map (requestCommand p)

/-- The handset unit's and the pairing unit's expiries that are due (R44, R51, R56, R64). -/
def dueHandsets (s : State) : List Instr :=
  (if reached s.clock s.scanner.nextRound then [Instr.intervalTimerExpiry] else []) ++
    handsetNos.flatMap fun h =>
      (if due s.clock s.handsets[h].holdEnd then [Instr.holdEnd h] else []) ++
        (if due s.clock s.handsets[h].lostTime then [Instr.lostTime h] else []) ++
        (if due s.clock (holdExpiry s.handsets[h]) then [Instr.holdTimerExpiry h] else []) ++
        (if due s.clock ((seekOf h s).map fun e => later e.joined 200000) then [Instr.seekTimerExpiry h] else [])

/-- The car table's expiries that are due (R26, R37). -/
def dueCars (s : State) : List Instr :=
  carNos.flatMap fun c =>
    (if due s.clock s.cars[c].intent then [Instr.intentExpiry c] else []) ++
      (if due s.clock s.cars[c].ageExpiry then [Instr.ageExpiry c] else [])

/-- The stale times and deadlines that are due (R103, R117). -/
def dueSwitches (s : State) : List Instr :=
  switchNos.flatMap fun j =>
    (s.lists[j].filter fun e => reached s.clock e.staleAt).map (fun e => Instr.staleExpiry j e.car) ++
      (if due s.clock s.switches[j].deadline then [Instr.deadlineExpiry j] else [])

/-- The cycle end, the reply timer and the limit of a settings-memory write, where due (R134, R151, R199). -/
def dueOthers (s : State) : List Instr :=
  (if s.now.hasReached s.frames.cycleEnd then [Instr.cycleEnd] else []) ++
    (match s.loop.exchange with
      | some x => if due s.clock x.replyBy then [Instr.replyTimeout] else []
      | none => []) ++
    (match s.store with
      | .saving p => if reached s.clock p.confirmBy then [Instr.saveWriteTimeout] else []
      | .idle | .loading => [])

/-- Everything that is due. -/
def dueCommands (s : State) : List Instr :=
  dueRequests s ++ dueHandsets s ++ dueCars s ++ dueSwitches s ++ dueOthers s

/-- What the part takes next while no command waits, and the state it takes it in: nothing in reset, the one
thing that is due, or one of several by `Config.duePick`, the manual letting any be first (log entry 4). -/
def nextDue (s : State) : Option (Instr × State) :=
  if s.resetHeld then none
  else
    match dueCommands s with
    | [] => none
    | [c] => some (c, s)
    | c :: cs => some ((c :: cs).getD (Config.duePick s.picks % (cs.length + 1)) c, { s with picks := s.picks + 1 })

/-- With nothing waiting and nothing due, 25 µs pass; in reset the part does nothing (R173, log entry 5). -/
def idleTime (s : State) : State := if s.resetHeld then s else passQuarter s

end Sys2Proof.Machine
end

