-- ==== Sys2Proof/Machine/Dispatch.lean ====
section
/-! DEFINITION. The dispatch: one arm a command, each a direct call of its meaning. -/

namespace Sys2Proof.Machine

def exec (i : Instr) (s : State) : Host.Outcome State Fault Refusal :=
  match i with
  | .chipSelectFall p => Sys2Proof.Machine.execChipSelectFall p s
  | .chipSelectRise p => Sys2Proof.Machine.execChipSelectRise p s
  | .unknownRequest p => Sys2Proof.Machine.execUnknownRequest p s
  | .identify p => Sys2Proof.Machine.execIdentify p s
  | .status p => Sys2Proof.Machine.execStatus p s
  | .readEvents p => Sys2Proof.Machine.execReadEvents p s
  | .setEventMask p => Sys2Proof.Machine.execSetEventMask p s
  | .clearFlags p => Sys2Proof.Machine.execClearFlags p s
  | .clearQueue p => Sys2Proof.Machine.execClearQueue p s
  | .start p => Sys2Proof.Machine.execStart p s
  | .caution p => Sys2Proof.Machine.execCaution p s
  | .clearCaution p => Sys2Proof.Machine.execClearCaution p s
  | .halt p => Sys2Proof.Machine.execHalt p s
  | .resume p => Sys2Proof.Machine.execResume p s
  | .setup p => Sys2Proof.Machine.execSetup p s
  | .railFault p => Sys2Proof.Machine.execRailFault p s
  | .railClear p => Sys2Proof.Machine.execRailClear p s
  | .writeSegment p => Sys2Proof.Machine.execWriteSegment p s
  | .readSegment p => Sys2Proof.Machine.execReadSegment p s
  | .writeSwitch p => Sys2Proof.Machine.execWriteSwitch p s
  | .readSwitch p => Sys2Proof.Machine.execReadSwitch p s
  | .writeGate p => Sys2Proof.Machine.execWriteGate p s
  | .readGate p => Sys2Proof.Machine.execReadGate p s
  | .setPairingGate p => Sys2Proof.Machine.execSetPairingGate p s
  | .validateMap p => Sys2Proof.Machine.execValidateMap p s
  | .writeProfile p => Sys2Proof.Machine.execWriteProfile p s
  | .readCar p => Sys2Proof.Machine.execReadCar p s
  | .writeCalibration p => Sys2Proof.Machine.execWriteCalibration p s
  | .setScan p => Sys2Proof.Machine.execSetScan p s
  | .readRaw p => Sys2Proof.Machine.execReadRaw p s
  | .readHandset p => Sys2Proof.Machine.execReadHandset p s
  | .postSamples p => Sys2Proof.Machine.execPostSamples p s
  | .bind p => Sys2Proof.Machine.execBind p s
  | .unbind p => Sys2Proof.Machine.execUnbind p s
  | .readPairing p => Sys2Proof.Machine.execReadPairing p s
  | .lockSwitch p => Sys2Proof.Machine.execLockSwitch p s
  | .unlockSwitch p => Sys2Proof.Machine.execUnlockSwitch p s
  | .clearSwitch p => Sys2Proof.Machine.execClearSwitch p s
  | .readNode p => Sys2Proof.Machine.execReadNode p s
  | .fetchFrame p => Sys2Proof.Machine.execFetchFrame p s
  | .setCycleTrim p => Sys2Proof.Machine.execSetCycleTrim p s
  | .setLimits p => Sys2Proof.Machine.execSetLimits p s
  | .saveImage p => Sys2Proof.Machine.execSaveImage p s
  | .loadImage p => Sys2Proof.Machine.execLoadImage p s
  | .restart p => Sys2Proof.Machine.execRestart p s
  | .resetPinAssert => Sys2Proof.Machine.execResetPinAssert s
  | .powerOnReset straps => Sys2Proof.Machine.execPowerOnReset straps s
  | .intervalTimerExpiry => Sys2Proof.Machine.execIntervalTimerExpiry s
  | .roundResult ch raw pressed => Sys2Proof.Machine.execRoundResult ch raw pressed s
  | .holdEnd h => Sys2Proof.Machine.execHoldEnd h s
  | .lostTime h => Sys2Proof.Machine.execLostTime h s
  | .holdTimerExpiry h => Sys2Proof.Machine.execHoldTimerExpiry h s
  | .seekTimerExpiry h => Sys2Proof.Machine.execSeekTimerExpiry h s
  | .intentExpiry c => Sys2Proof.Machine.execIntentExpiry c s
  | .ageExpiry c => Sys2Proof.Machine.execAgeExpiry c s
  | .staleExpiry j c => Sys2Proof.Machine.execStaleExpiry j c s
  | .deadlineExpiry j => Sys2Proof.Machine.execDeadlineExpiry j s
  | .cycleEnd => Sys2Proof.Machine.execCycleEnd s
  | .pollSent => Sys2Proof.Machine.execPollSent s
  | .replyReceived r => Sys2Proof.Machine.execReplyReceived r s
  | .replyTimeout => Sys2Proof.Machine.execReplyTimeout s
  | .saveWriteConfirm => Sys2Proof.Machine.execSaveWriteConfirm s
  | .saveWriteTimeout => Sys2Proof.Machine.execSaveWriteTimeout s
  | .loadComplete => Sys2Proof.Machine.execLoadComplete s
  | .masterSendsByte p b => Sys2Proof.Machine.execMasterSendsByte p b s
  | .setRaceStateBadTarget p => Sys2Proof.Machine.execSetRaceStateBadTarget p s

end Sys2Proof.Machine
end

