-- ==== Sys2Proof/Machine/Step.lean ====
section
/-! DEFINITION. One step: the command at the front of the queue, or, with none waiting, what is due, or the
passing of time (log entry 5). -/

namespace Sys2Proof.Machine

/-- With no command waiting: what is due is taken, and otherwise time passes (Machine/Clock.lean). -/
def idle (s : State) : Host.Outcome State Fault Refusal :=
  match nextDue s with
  | some (c, s') => exec c s'
  | none => .next (idleTime s)

/-- One step of the part. -/
def step (s : State) : Host.Outcome State Fault Refusal :=
  match s.pending with
  | c :: rest => exec c { s with pending := rest }
  | [] => idle s

/-- The command a word spells put at the front of the queue; no word spells one (Sys2Proof/Decode.lean). -/
def State.withFetchWord (s : State) (nbits w : Nat) : State :=
  match decodeTableWord nbits w with
  | some c => { s with pending := c :: s.pending }
  | none => s

end Sys2Proof.Machine
end

