-- ==== Sys2Proof/Safety.lean ====
section
/-! DEFINITION. What a safe run of the LX612 keeps: the laws the manual states over its whole state, each as
a predicate that every step preserves; and the words in which claims speak of a request and its reply. -/

namespace Sys2Proof.Machine

/-! ### Requests and replies, in the words of claims -/

/-- A request frame with this code and body has ended on port `p` and waits to be taken, and the part is not
held in reset (R177, R178). -/
structure FrameEnded (p : Port) (code : Byte) (body : List Byte) (s : State) : Prop where
  running : s.resetHeld = false
  taking : (s.ports.get p).phase = .taking
  frame : (s.ports.get p).request = some { code := code, length := some (byte body.length), body := body }
  short : body.length ≤ 60

/-- The state with port `p` REPLYING and the reply frame A5h, status, body length, body ready (R178). -/
def withReply (p : Port) (status : Byte) (body : List Byte) (s : State) : State :=
  s.modifyPort p fun x =>
    { x with phase := .replying, reply := some { bytes := 0xA5 :: status :: byte body.length :: body, sent := 0 } }

/-- A step or a command goes on to a next state that meets `P`. -/
def GoesTo (o : Host.Outcome State Fault Refusal) (P : State → Prop) : Prop := ∃ t, o = .next t ∧ P t

/-- Commands carried out one after another, each going on to a next state. -/
def runCommands (is : List Instr) (s : State) : Option State :=
  match is with
  | [] => some s
  | i :: is =>
    match exec i s with
    | .next t => runCommands is t
    | .fault _ | .refused _ => none

/-- `P` is kept by every step. -/
def KeptByEveryStep (P : State → Prop) : Prop := ∀ s t, P s → step s = .next t → P t

/-! ### The laws -/

/-- The race is RUN or CAUTION only while the rail hold is clear (R162). -/
def RailLaw (s : State) : Prop := s.race = .run ∨ s.race = .caution → s.railHold = false

/-- An intent is ARMED only while the race state is RUN and the car is bound (R36). -/
def IntentLaw (s : State) : Prop :=
  ∀ c : CarNo, s.cars[c].intent.isSome → s.race = .run ∧ s.cars[c].binding.isSome

/-- The agreement of handset and car records, and of the queue and the SEEKING handsets (R62, R63). -/
structure PairingLaw (s : State) : Prop where
  agree : ∀ (h : HandsetNo) (c : CarNo), s.handsets[h].pairing = .bound c ↔ s.cars[c].binding = some h
  enabled : ∀ c : CarNo, s.cars[c].binding.isSome → s.cars[c].profile.enabled = true
  queued : ∀ h : HandsetNo, h ∈ s.seeks.map Seek.handset ↔ s.handsets[h].pairing = .seeking
  once : (s.seeks.map Seek.handset).Nodup
  room : s.seeks.length ≤ 4

/-- The cars of every reservation entry, list by list. -/
def reservedCars (s : State) : List CarNo := switchNos.flatMap fun j => s.lists[j].map Reservation.car

/-- No list holds more than 4 entries, and each car appears in at most one entry across all 24 lists
(R99). -/
structure ReservationLaw (s : State) : Prop where
  room : ∀ j : SwitchNo, s.lists[j].length ≤ 4
  once : (reservedCars s).Nodup

/-- What a used switch's state fixes of its record (R111). -/
def SwitchRun.lawful (r : SwitchRun) : Prop :=
  match r.state with
  | .straight => r.commanded = .straight ∧ r.confirmed = .straight ∧ r.deadline = none
  | .throwing => r.commanded = .thrown ∧ r.deadline ≠ none
  | .thrown => r.commanded = .thrown ∧ r.confirmed = .thrown ∧ r.deadline = none
  | .returning => r.commanded = .straight ∧ r.deadline ≠ none
  | .locked => r.commanded = .straight ∧ (r.confirmed ≠ .straight → r.deadline ≠ none)
  | .fault => r.commanded = .straight ∧ r.deadline = none

/-- The values of an unused switch's record, its counts apart (R110). -/
def SwitchRun.atRest (r : SwitchRun) : Prop :=
  r.state = .straight ∧ r.commanded = .straight ∧ r.confirmed = .unknown ∧ r.deadline = none

/-- Switches, reservation lists, nodes and the loop fit together (R105, R110, R111, R132 to R134, R144,
R145). -/
structure TrackLaw (s : State) : Prop where
  used : ∀ j : SwitchNo, (s.map.switch j).used = true → s.switches[j].lawful
  unused : ∀ j : SwitchNo, (s.map.switch j).used = false → s.switches[j].atRest
  thrown : ∀ j : SwitchNo, s.switches[j].commanded = .thrown → s.lists[j] ≠ []
  empty : s.race = .setup ∨ s.race = .halt → ∀ j : SwitchNo, s.lists[j] = []
  urgentUsed : ∀ j ∈ s.loop.urgent, (s.map.switch j).used = true ∧ s.switches[j].state ≠ .fault
  urgentOnce : s.loop.urgent.Nodup
  urgentRun : s.loop.urgentRun ≤ 2
  polled : ∀ a : NodeNo, s.loop.nodes[a].state = .unpolled ↔ s.map.polled a = false
  exchange : ∀ x, s.loop.exchange = some x → x.discard = false → s.map.polled x.node = true
  idle : s.loop.exchange = none → ∀ a : NodeNo, s.map.polled a = false

/-- Each port's queue holds at most 32 records, and its drop count stops at 255 (R192). -/
def EventLaw (s : State) : Prop :=
  ∀ p : Port, (s.events.get p).queue.length ≤ 32 ∧ (s.events.get p).drops ≤ 255

/-- Everything a writing request checks lies in its range (R1, R3, R7, R8, R20, R43, R52, R150, R188); every
speed estimate lies within 0–8,000 mm/s (R23); and every step within 0–63 (R42, R38). -/
structure RangeLaw (s : State) : Prop where
  map : s.map.inRange = true
  profiles : ∀ c : CarNo, s.cars[c].profile.inRange = true
  calibrations : ∀ h : HandsetNo, s.handsets[h].calibration.inRange h = true
  scan : scanInRange s.scanner.setCode s.scanner.intervalCode = true
  trim : s.frames.trim ≤ 63
  limits : s.limits.inRange = true
  speeds : ∀ c : CarNo, s.cars[c].speed ≤ 8000
  steps : ∀ h : HandsetNo, s.handsets[h].step ≤ 63
  lastSteps : ∀ c : CarNo, s.cars[c].lastStep ≤ 63

/-- The published frame carries the sequence number held; only a published frame can be fetched; and
frame-pending stands exactly while the published frame has not been fetched (R150, R153, R157, R158). -/
structure FrameLaw (s : State) : Prop where
  seq : ∀ x, s.frames.published = some x → x.seq = s.frames.seq
  fetched : s.frames.fetched = true → s.frames.published.isSome = true
  pending : s.frames.framePending = (s.frames.published.isSome && !s.frames.fetched)
  missed : s.frames.missed ≤ 65535

/-- What a port's phase fixes of its request and its reply (R176 to R178). -/
def PortState.lawful (x : PortState) : Prop :=
  match x.phase with
  | .idle => x.request = none ∧ x.reply = none
  | .receiving => x.request.all (fun f => !f.hasEnded) = true ∧ x.reply = none
  | .taking => x.request.any Frame.hasEnded = true ∧ x.reply = none
  | .replying => x.request.any Frame.hasEnded = true ∧ ∃ r, x.reply = some r ∧ r.sent < r.bytes.length
  | .done => x.request.any Frame.hasEnded = true ∧ ∃ r, x.reply = some r ∧ r.sent = r.bytes.length

/-- Every port's phase, request and reply fit together, and its counts stop at 16 and at 255 (R176, R178,
R179). -/
def PortLaw (s : State) : Prop :=
  ∀ p : Port, (s.ports.get p).lawful ∧ (s.ports.get p).filler ≤ 16 ∧ (s.ports.get p).aborted ≤ 255 ∧
    (s.ports.get p).cut ≤ 255

end Sys2Proof.Machine
end

