-- ==== Sys2Proof/Certificates/Slice0/Obligations.lean ====
section
/-! DEFINITION. The statements about the LX612, chapter by chapter: what each command does, what it leaves
alone, and the laws that every step keeps. -/

open Sys2Proof Sys2Proof.Machine

/-! ### The queue, time and the resets -/

/-- A step with a command waiting carries out the one at the front on the state with the rest of the queue. -/
def Obligations.StepRunsFrontCommand : Prop :=
  ∀ (c : Instr) (rest : List Instr) (s : State),
    step { s with pending := c :: rest } = exec c { s with pending := rest }

/-- With no command waiting, the part takes what is due, one thing at a time, and with nothing due 25 µs
pass. What is due is listed: a request frame that has ended, by its row; and each pending expiry that the race
clock has reached. A time counts as reached until the clock is half a turn past it. The model's choice: what an
idle step does and which thing is first (log entries 4 and 5), and the half turn (log entry 30). -/
def Obligations.IdlePartTakesWhatIsDue : Prop :=
  (∀ now t : Time, reached now t = true ↔ ∃ n < 2 ^ 31, now = t + BitVec.ofNat 32 n) ∧
  (∀ now t : Instant, now.hasReached t = true ↔ ∃ n < 2 ^ 33, now.bits = t.bits + BitVec.ofNat 34 n) ∧
  ∀ s : State,
    (∀ c : Instr, c ∈ dueCommands s ↔
      (∃ (p : Port) (f : Frame), (s.ports.get p).phase = .taking ∧ (s.ports.get p).request = some f ∧
        ((f.code ∉ catalogueCodes ∧ c = .unknownRequest p) ∨ ∃ x : Request, x.owns f = true ∧ c = x.instr p)) ∨
      (c = .intervalTimerExpiry ∧ reached s.clock s.scanner.nextRound = true) ∨
      (∃ (h : HandsetNo) (t : Time), s.handsets[h].holdEnd = some t ∧ reached s.clock t = true ∧ c = .holdEnd h) ∨
      (∃ (h : HandsetNo) (t : Time), s.handsets[h].lostTime = some t ∧ reached s.clock t = true ∧
        c = .lostTime h) ∨
      (∃ (h : HandsetNo) (t : Time), s.handsets[h].holdTimer = some t ∧ reached s.clock (t + 20000) = true ∧
        c = .holdTimerExpiry h) ∨
      (∃ (h : HandsetNo) (e : Seek), s.seeks.find? (fun x => x.handset == h) = some e ∧
        reached s.clock (e.joined + 200000) = true ∧ c = .seekTimerExpiry h) ∨
      (∃ (k : CarNo) (t : Time), s.cars[k].intent = some t ∧ reached s.clock t = true ∧ c = .intentExpiry k) ∨
      (∃ (k : CarNo) (t : Time), s.cars[k].ageExpiry = some t ∧ reached s.clock t = true ∧ c = .ageExpiry k) ∨
      (∃ (j : SwitchNo) (e : Reservation), e ∈ s.lists[j] ∧ reached s.clock e.staleAt = true ∧
        c = .staleExpiry j e.car) ∨
      (∃ (j : SwitchNo) (t : Time), s.switches[j].deadline = some t ∧ reached s.clock t = true ∧
        c = .deadlineExpiry j) ∨
      (c = .cycleEnd ∧ s.now.hasReached s.frames.cycleEnd = true) ∨
      (∃ (x : Exchange) (t : Time), s.loop.exchange = some x ∧ x.replyBy = some t ∧ reached s.clock t = true ∧
        c = .replyTimeout) ∨
      (∃ p : SaveProgress, s.store = .saving p ∧ reached s.clock p.confirmBy = true ∧ c = .saveWriteTimeout)) ∧
    (s.pending = [] →
      (s.resetHeld = true → step s = .next s) ∧
      (s.resetHeld = false →
        (dueCommands s = [] → step s = .next (passQuarter s) ∧ (passQuarter s).now.bits = s.now.bits + 1) ∧
        (∀ c, dueCommands s = [c] → step s = exec c s) ∧
        (∀ c d cs, dueCommands s = c :: d :: cs →
          ∃ x ∈ c :: d :: cs, step s = exec x { s with picks := s.picks + 1 })))

/-- The reset pin held low (R173): it is asserted, and then every command but its release leaves the state
alone and every attention line is undriven (R184). R173 names ports, polls, scans and frames; that every other
command leaves the state alone too is the model's choice (log entry 18). -/
def Obligations.ResetPinHoldsThePart : Prop :=
  ∀ s : State,
    exec .resetPinAssert s = .next { s with resetHeld := true } ∧
    (s.resetHeld = true →
      (∀ i : Instr, (∀ x, i ≠ .powerOnReset x) → exec i s = .next s) ∧
      ∀ p : Port, attentionLine s p = .undriven)

/-- The values a power-on reset leaves in every block, and the LOAD strap's load (R173, R202 and each block's
own rule). The settings memory is outside the part and keeps its contents. -/
def Obligations.PowerOnResetValues : Prop :=
  ∀ (x : Straps) (s : State), GoesTo (exec (.powerOnReset x) s) fun t =>
    t.resetHeld = false ∧ t.clock = 0 ∧ t.race = .setup ∧ t.railHold = false ∧ t.restartAccepted = false ∧
    -- MAP (R19)
    t.mapValid = false ∧ t.map.pairingGate = none ∧
    (∀ n : Fin 64, t.map.segments[n] = { used := false, lane := 0, length := 1000, next := 0 }) ∧
    (∀ j : SwitchNo, t.map.switches[j] =
      { used := false, home := 0, thrown := 0, entryOffset := 0, exitStraightOffset := 0, exitThrownOffset := 0,
        zoneLength := 200, group := none, actuation := 250 }) ∧
    (∀ g : Fin 16, t.map.gates[g] = { used := false, segment := 0, offset := 0 }) ∧
    -- CAR (R40)
    (∀ c : CarNo, t.cars[c] =
      { profile := { enabled := false, vmax := 3000, response := 4, length := 140, pace := false },
        binding := none, intent := none, speed := 0, fix := none, stale := false, ageExpiry := none,
        lastStep := 0, misroutes := 0, refixes := 0 }) ∧
    -- HSU and PRU (R61, R80)
    (∀ h : HandsetNo, t.handsets[h] =
      { presence := .absent, presenceCount := 0, pairing := .idle,
        calibration := if h.val < 8 then { zero := 400, full := 3700, deadband := 100 }
          else { zero := 16, full := 240, deadband := 8 },
        step := 0, button := false, prevSample := none, holdTimer := none, lastSample := 0, holdEnd := none,
        lostTime := none }) ∧
    t.scanner.setCode = 2 ∧ t.scanner.intervalCode = 1 ∧ t.scanner.nextRound = 20 ∧ t.scanner.round = [] ∧
    (∀ ch : Channel, t.scanner.latches[ch] = { raw := 0, fresh := false }) ∧ t.seeks = [] ∧
    -- LCA and SWC (R109, R131)
    (∀ j : SwitchNo, t.lists[j] = [] ∧ t.verdicts[j] = none ∧ t.switches[j] =
      { state := .straight, commanded := .straight, confirmed := .unknown, deadline := none, throwCount := 0,
        faultCount := 0, straightPassages := 0, thrownPassages := 0 }) ∧
    -- SLC (R149)
    (∀ a : NodeNo, t.loop.nodes[a] =
      { state := .unpolled, missCount := 0, goodCount := 0, exchanges := 0, misses := 0, lastAnswer := none,
        lastMiss := none }) ∧
    t.loop.urgent = [] ∧ t.loop.pointer = 0 ∧ t.loop.urgentRun = 0 ∧ t.loop.exchange = none ∧
    -- FRB (R161): the first cycle end after 8,000 µs, which is 80 tu
    t.frames = { trim := 32, cycleEnd := { tu := 80, quarter := 0 }, seq := 0, published := none,
                 fetched := false, missed := 0, framePending := false } ∧
    -- the limits (R188)
    t.limits = { guardTime := 150, intentHold := 15, cautionStep := 24, paceStep := 20, satEvents := false } ∧
    -- the ports (R176)
    (∀ p : Port, (t.ports.get p).phase = .idle ∧ (t.ports.get p).request = none ∧
      (t.ports.get p).reply = none ∧ (t.ports.get p).filler = 0 ∧ (t.ports.get p).aborted = 0 ∧ (t.ports.get p).cut = 0) ∧
    (t.ports.get .base).drive = x.base ∧ (t.ports.get .console).drive = x.console ∧
    (t.ports.get .radio).drive = x.radio ∧
    -- EVU and SSI (R202)
    (∀ p : Port, (t.events.get p).queue = [] ∧ (t.events.get p).drops = 0 ∧
      (t.events.get p).flags =
        { railFault := false, overrun := false, satSeen := false, nodeFaultSeen := false,
          misrouteSeen := false }) ∧
    (t.events.get .base).mask = 0x050 ∧ (t.events.get .console).mask = 0x1FF ∧
    (t.events.get .radio).mask = 0x021 ∧
    t.generation = 0 ∧ t.store = (if x.load then .loading else .idle) ∧ t.memory = s.memory

/-! ### Ports and transactions (Chapter 10) -/

/-- What an edge of chip select and a clocked byte do to their port, by its phase, and that they do nothing
else (R177 to R179). In TAKING filler is sent and counted, and the byte after 16 fillers finds the reply ready
(R178). The rise that finds an ended frame not yet taken acts as the frame's own command followed by the rise,
the model's choice (log entry 19); a fall in another phase than IDLE, which does not come about, does nothing,
and so does a byte in IDLE, the model's choices (log entries 3 and 34). The rise after an accepted RESTART is
`SettingsAndStore`'s. -/
def Obligations.SelectAndBytesByPhase : Prop :=
  ∀ (p : Port) (b : Byte) (s : State), s.resetHeld = false →
    -- the fall
    ((s.ports.get p).phase = .idle → exec (.chipSelectFall p) s =
      .next (s.modifyPort p fun x => { x with phase := .receiving, request := none, reply := none, filler := 0 })) ∧
    ((s.ports.get p).phase ≠ .idle → exec (.chipSelectFall p) s = .next s) ∧
    -- the rise
    (¬(p = .console ∧ s.restartAccepted = true) →
      ((s.ports.get p).phase = .idle ∨ (s.ports.get p).phase = .done ∨
          ((s.ports.get p).phase = .receiving ∧ (s.ports.get p).request = none) →
        exec (.chipSelectRise p) s =
          .next (s.modifyPort p fun x => { x with phase := .idle, request := none, reply := none })) ∧
      ((s.ports.get p).phase = .receiving → (s.ports.get p).request ≠ none → exec (.chipSelectRise p) s =
        .next (s.modifyPort p fun x => { x with
          phase := .idle, request := none, reply := none,
          aborted := if x.aborted < 255 then x.aborted + 1 else x.aborted })) ∧
      ((s.ports.get p).phase = .replying → exec (.chipSelectRise p) s =
        .next (s.modifyPort p fun x => { x with
          phase := .idle, request := none, reply := none,
          cut := if x.cut < 255 then x.cut + 1 else x.cut }))) ∧
    -- a byte
    ((s.ports.get p).phase = .idle → exec (.masterSendsByte p b) s = .next s) ∧
    ((s.ports.get p).phase = .receiving → (s.ports.get p).request = none → exec (.masterSendsByte p b) s =
      .next (s.modifyPort p fun x => { x with
        request := some { code := b, length := none, body := [] }, miso := 0xFF })) ∧
    (∀ code, (s.ports.get p).phase = .receiving →
      (s.ports.get p).request = some { code := code, length := none, body := [] } →
      exec (.masterSendsByte p b) s =
        .next (s.modifyPort p fun x => { x with
          request := some { code := code, length := some b, body := [] }, miso := 0xFF,
          phase := if b = 0 ∨ 60 < b.toNat then .taking else .receiving })) ∧
    (∀ code n body, (s.ports.get p).phase = .receiving →
      (s.ports.get p).request = some { code := code, length := some n, body := body } → n.toNat ≤ 60 →
      exec (.masterSendsByte p b) s =
        .next (s.modifyPort p fun x => { x with
          request := some { code := code, length := some n, body := body ++ [b] }, miso := 0xFF,
          phase := if n.toNat ≤ body.length + 1 then .taking else .receiving })) ∧
    (∀ r, (s.ports.get p).phase = .replying → (s.ports.get p).reply = some r → r.sent < r.bytes.length →
      exec (.masterSendsByte p b) s =
        .next (s.modifyPort p fun x => { x with
          miso := r.bytes.getD r.sent 0, reply := some { r with sent := r.sent + 1 },
          phase := if r.sent + 1 = r.bytes.length then .done else .replying })) ∧
    ((s.ports.get p).phase = .taking → (s.ports.get p).filler < 16 → exec (.masterSendsByte p b) s =
      .next (s.modifyPort p fun x => { x with miso := 0xFF, filler := x.filler + 1 })) ∧
    ((s.ports.get p).phase = .done → exec (.masterSendsByte p b) s =
      .next (s.modifyPort p fun x => { x with miso := 0xFF })) ∧
    -- an ended frame not yet taken, found by the rise or by the byte after 16 fillers
    (∀ f t, endedFrame p s = some f → exec (requestCommand p f) s = .next t →
      exec (.chipSelectRise p) s = exec (.chipSelectRise p) t ∧
      (16 ≤ (s.ports.get p).filler → exec (.masterSendsByte p b) s = exec (.masterSendsByte p b) t))

/-- A request of any code and of a body of up to 60 bytes, clocked into an idle port byte by byte after chip
select falls, stands on the port as an ended frame, whole and in order; nothing else changes (R177). -/
def Obligations.RequestReceivedWhole : Prop :=
  ∀ (p : Port) (code : Byte) (body : List Byte) (s : State),
    s.resetHeld = false → (s.ports.get p).phase = .idle → body.length ≤ 60 →
    ∃ t, runCommands (.chipSelectFall p :: (code :: byte body.length :: body).map (.masterSendsByte p)) s = some t ∧
      FrameEnded p code body t ∧ t = { s with ports := t.ports } ∧
      ∀ q, q ≠ p → t.ports.get q = s.ports.get q

/-- A reply is clocked out byte by byte in order, whatever the master sends against it; its last byte, and no
earlier one, moves the port to DONE; nothing else changes (R178). -/
def Obligations.ReplyClockedOutWhole : Prop :=
  ∀ (p : Port) (reply sent : List Byte) (s : State),
    s.resetHeld = false → (s.ports.get p).phase = .replying →
    (s.ports.get p).reply = some { bytes := reply, sent := 0 } → sent ≠ [] → sent.length ≤ reply.length →
    ∃ t, runCommands (sent.map (.masterSendsByte p)) s = some t ∧
      some (t.ports.get p).miso = reply[sent.length - 1]? ∧
      ((t.ports.get p).phase = .done ↔ sent.length = reply.length) ∧
      t = { s with ports := t.ports } ∧ ∀ q, q ≠ p → t.ports.get q = s.ports.get q

/-- An ended frame is checked in R180's order; the first check that fails gives the status, with an empty
body and nothing changed; a frame that passes all five is handed to its owner, whose effects and reply
stand. What each check asks is spelled out: the row that owns a frame, the length that fits, the reserved bits
(R181, R185). The model's choices: the row of a SET RACE STATE frame without a target byte (log entry 8), and a
sample's button byte as a yes/no field (log entry 29). -/
def Obligations.FrameChecksInOrder : Prop :=
  (∀ (x : Request) (p : Port) (f : Frame) (s : State), s.resetHeld = false → endedFrame p s = some f →
    (f.code ∉ catalogueCodes → exec (.unknownRequest p) s = .next (withReply p 0x10 [] s)) ∧
    (x.owns f = true →
      (f.length.any (60 < ·.toNat) = true → exec (x.instr p) s = .next (withReply p 0x11 [] s)) ∧
      (f.length.any (60 < ·.toNat) = false →
        (x.lengthFits f.body = false → exec (x.instr p) s = .next (withReply p 0x11 [] s)) ∧
        (x.lengthFits f.body = true →
          (x.reservedSet f.body = true → exec (x.instr p) s = .next (withReply p 0x11 [] s)) ∧
          (x.reservedSet f.body = false →
            (x.allows (portRole p) = false → exec (x.instr p) s = .next (withReply p 0x12 [] s)) ∧
            (x.allows (portRole p) = true → ∀ u r, ownerOf p x f.body s = (u, r) →
              exec (x.instr p) s = .next (withReply p r.status.code r.body u))))))) ∧
  -- the row that owns a frame
  (∀ f : Frame,
    (∀ x ∈ [(Request.start, (0 : Byte)), (.caution, 1), (.clearCaution, 2), (.halt, 3), (.resume, 4), (.setup, 5)],
      x.1.owns f = true ↔ f.code = 0x10 ∧ f.body.head? = some x.2) ∧
    (Request.badTarget.owns f = true ↔ f.code = 0x10 ∧ ∀ b, f.body.head? = some b → 5 < b.toNat) ∧
    ∀ x : Request, x.code ≠ 0x10 → (x.owns f = true ↔ f.code = x.code)) ∧
  ∀ body : List Byte,
    -- the length
    (∀ x : Request, x ≠ .postSamples → (x.lengthFits body = true ↔ body.length = x.bodyLength)) ∧
    (Request.postSamples.lengthFits body = true ↔ ∃ n rest, body = n :: rest ∧ 1 ≤ n.toNat ∧ n.toNat ≤ 8 ∧
      body.length = 1 + 3 * n.toNat) ∧
    -- the reserved bits
    (∀ x ∈ [Request.writeSegment, .writeSwitch, .writeGate],
      x.reservedSet body = true ↔ ∃ b, body[1]? = some b ∧ 1 < b.toNat) ∧
    (Request.writeProfile.reservedSet body = true ↔ ∃ i ∈ [1, 7], ∃ b, body[i]? = some b ∧ 1 < b.toNat) ∧
    (Request.setLimits.reservedSet body = true ↔ ∃ b, body[5]? = some b ∧ 1 < b.toNat) ∧
    (Request.setEventMask.reservedSet body = true ↔ ∃ b, body[1]? = some b ∧ 1 < b.toNat) ∧
    (Request.clearFlags.reservedSet body = true ↔ ∃ b, body[0]? = some b ∧ 31 < b.toNat) ∧
    (∀ (n : Byte) (samples : List (Byte × Byte × Byte)),
      Request.postSamples.reservedSet (n :: samples.flatMap fun x => [x.1, x.2.1, x.2.2]) = true ↔
        ∃ x ∈ samples, 1 < x.2.2.toNat) ∧
    ∀ x : Request, x ∉ [Request.writeSegment, .writeSwitch, .writeGate, .writeProfile, .setLimits, .setEventMask,
      .clearFlags, .postSamples] → x.reservedSet body = false

/-- The request catalogue: code, exact body length, and whether base, console and radio may issue it
(R185). POST SAMPLES, of 1 + 3 × count bytes, stands with the 1 of its count byte; SET RACE STATE stands
once a target and once for any other target. -/
def Obligations.CatalogueAsTabled : Prop :=
  requests.map (fun x => (x.code.toNat, x.bodyLength, x.allows .base, x.allows .console, x.allows .radio)) =
    [(0x01, 0, true, true, true), (0x02, 0, true, true, true), (0x03, 0, true, true, true),
     (0x04, 2, true, true, true), (0x05, 1, true, true, true), (0x06, 0, true, true, true)] ++
    List.replicate 7 (0x10, 1, false, true, false) ++
    [(0x11, 0, true, false, false), (0x12, 0, true, false, false),
     (0x20, 6, false, true, false), (0x21, 1, true, true, true), (0x22, 15, false, true, false),
     (0x23, 1, true, true, true), (0x24, 5, false, true, false), (0x25, 1, true, true, true),
     (0x26, 1, false, true, false), (0x27, 0, false, true, false), (0x30, 8, false, true, false),
     (0x31, 1, true, true, true), (0x40, 7, false, true, false), (0x41, 2, false, true, false),
     (0x42, 1, false, true, false), (0x43, 1, true, true, true), (0x44, 1, false, false, true),
     (0x50, 2, false, true, false), (0x51, 1, false, true, false), (0x52, 0, true, true, true),
     (0x60, 1, false, true, false), (0x61, 1, false, true, false), (0x62, 1, false, true, false),
     (0x68, 1, true, true, true), (0x70, 0, true, false, false), (0x71, 1, false, true, false),
     (0x80, 6, false, true, false), (0x81, 0, false, true, false), (0x82, 0, false, true, false),
     (0x83, 0, false, true, false)]

/-- The reading requests of every role: the reply is composed from the state as it stands, field by field in the
owning rule's order, a number above its table is refused with RANGE, and nothing but the port's reply changes
(R18, R39, R59, R78, R128, R148, R181, R186, R187). The model's choices: map-valid's polarity is free (log
entry 2), and the layout of masks and of absent values is read by inference (log entries 9 and 23). -/
def Obligations.ReadingRequests : Prop :=
  (yesNo false = 0x00 ∧ yesNo true = 0x01 ∧ byteOrNone none = 0xFF ∧
    ∀ (n : Nat) (t : Time), byteOrNone (some n) = byte n ∧ (byte n).toNat = n % 256 ∧
      bytes2 n = [byte n, byte (n / 256)] ∧
      bytes4 t = [t.extractLsb' 0 8, t.extractLsb' 8 8, t.extractLsb' 16 8, t.extractLsb' 24 8]) ∧
  (∀ f : StickyFlags, ∀ i < 8, f.byte.getLsbD i =
    [f.railFault, f.overrun, f.satSeen, f.nodeFaultSeen, f.misrouteSeen].getD i false) ∧
  ∀ (p : Port) (s : State),
    let time : Option Time → List Byte := fun t => match t with
      | some t => 0x01 :: bytes4 t
      | none => [0, 0, 0, 0, 0]
    let pairing : PairingState → List Byte := fun x => match x with
      | .idle => [0, 0]
      | .seeking => [1, 0]
      | .bound c => [2, byte c.val]
    (FrameEnded p 0x01 [] s → exec (.identify p) s = .next (withReply p 0x00
      [0x56, 0x64, 0x02, byte (portNumber p), byte (portRole p).code, 12, 16, 4, 64, 24, 16, 8, 4, 4, 32, 8, 60] s)) ∧
    (FrameEnded p 0x02 [] s → exec (.status p) s = .next (withReply p 0x00
      ([byte s.race.code, if s.railHold then 0x00 else 0x01, flagByte .mapValid s.mapValid,
        match s.store with
          | .idle => 0
          | .saving _ => 1
          | .loading => 2] ++
        bytes4 s.clock ++
        [(s.events.get p).flags.byte, byte (s.events.get p).queue.length, byte (s.events.get p).drops] ++
        bytes2 (s.events.get p).mask.toNat ++
        [yesNo s.limits.satEvents, if s.frames.framePending then 0x00 else 0x01] ++ bytes2 s.frames.missed ++
        [byte (s.ports.get p).aborted, byte (s.ports.get p).cut]) s)) ∧
    (∀ n, FrameEnded p 0x21 [byte n] s →
      (∀ h : n < 64, exec (.readSegment p) s = .next (withReply p 0x00
        ([yesNo (s.map.segments[n]).used, byte (s.map.segments[n]).lane] ++ bytes2 (s.map.segments[n]).length ++
          [byte (s.map.segments[n]).next]) s)) ∧
      (64 ≤ n → n ≤ 255 → exec (.readSegment p) s = .next (withReply p 0x14 [] s))) ∧
    (∀ n, FrameEnded p 0x23 [byte n] s →
      (∀ h : n < 24,
        let j : SwitchNo := ⟨n, h⟩
        let m := s.map.switches[j]
        let r := s.switches[j]
        exec (.readSwitch p) s = .next (withReply p 0x00
          ([yesNo m.used, byte m.home, byte m.thrown] ++ bytes2 m.entryOffset ++ bytes2 m.exitStraightOffset ++
            bytes2 m.exitThrownOffset ++ bytes2 m.zoneLength ++ [byteOrNone m.group] ++ bytes2 m.actuation ++
            [byte r.state.code, byte r.commanded.code, byte r.confirmed.code] ++ time r.deadline ++
            bytes2 r.throwCount ++ [byte r.faultCount] ++ bytes2 r.straightPassages ++ bytes2 r.thrownPassages ++
            [yesNo (decide (j ∈ s.loop.urgent)), byte s.lists[j].length] ++
            (s.lists[j].flatMap fun e => [byte e.car.val] ++ bytes4 e.entryAt ++ bytes4 e.exitAt ++
              bytes4 e.grantedAt ++ bytes4 e.staleAt) ++
            match s.verdicts[j] with
              | some v => [0, byte v.car.val, byte v.switch.val] ++ bytes4 v.refTime ++
                  [byte v.verdict.code,
                    byte (v.flagG.toNat + 2 * v.flagC.toNat + 4 * v.flagL.toNat + 8 * v.flagS.toNat +
                      16 * v.flagU.toNat)] ++
                  bytes2 v.conflicts.toNat ++ [byteOrNone (v.firstConflict.map Fin.val)] ++ bytes2 v.entry ++
                  bytes2 v.exit
              | none => 1 :: List.replicate 15 0) s)) ∧
      (24 ≤ n → n ≤ 255 → exec (.readSwitch p) s = .next (withReply p 0x14 [] s))) ∧
    (∀ n, FrameEnded p 0x25 [byte n] s →
      (∀ h : n < 16, exec (.readGate p) s = .next (withReply p 0x00
        ([yesNo (s.map.gates[n]).used, byte (s.map.gates[n]).segment] ++ bytes2 (s.map.gates[n]).offset ++
          [yesNo (s.map.pairingGate == some n)]) s)) ∧
      (16 ≤ n → n ≤ 255 → exec (.readGate p) s = .next (withReply p 0x14 [] s))) ∧
    (∀ n, FrameEnded p 0x31 [byte n] s →
      (∀ h : n < 12,
        let r := s.cars[n]
        exec (.readCar p) s = .next (withReply p 0x00
          ([yesNo r.profile.enabled] ++ bytes2 r.profile.vmax ++ [byte r.profile.response] ++
            bytes2 r.profile.length ++ [yesNo r.profile.pace, byteOrNone (r.binding.map Fin.val)] ++
            time r.intent ++ bytes2 r.speed ++
            (match r.fix with
              | some f => [1, byte f.sensor.node.val, byte (sensorCode f.sensor.kind)] ++ bytes4 f.time ++
                  [if r.stale = true ∨ 50000 < (s.clock - f.time).toNat then 0x00 else 0x01]
              | none => [0, 0, 0, 0, 0, 0, 0, 0x01]) ++
            [byte r.lastStep, byte r.misroutes, byte r.refixes]) s)) ∧
      (12 ≤ n → n ≤ 255 → exec (.readCar p) s = .next (withReply p 0x14 [] s))) ∧
    (∀ n, FrameEnded p 0x43 [byte n] s →
      (∀ h : n < 16,
        let r := s.handsets[n]
        exec (.readHandset p) s = .next (withReply p 0x00
          ([if n < 8 then (0 : Byte) else 1,
            match r.presence with
              | .absent => 0
              | .active => 1
              | .lost => 2] ++
            pairing r.pairing ++ bytes2 r.calibration.zero ++ bytes2 r.calibration.full ++
            bytes2 r.calibration.deadband ++ [byte r.step, yesNo r.button] ++ time r.holdTimer ++
            bytes4 r.lastSample) s)) ∧
      (16 ≤ n → n ≤ 255 → exec (.readHandset p) s = .next (withReply p 0x14 [] s))) ∧
    (FrameEnded p 0x52 [] s → exec (.readPairing p) s = .next (withReply p 0x00
      ([byte s.seeks.length] ++ (s.seeks.flatMap fun e => byte e.handset.val :: bytes4 e.joined) ++
        ((List.finRange 16).flatMap fun h => pairing s.handsets[h].pairing) ++ [byteOrNone s.map.pairingGate]) s)) ∧
    (∀ n, FrameEnded p 0x68 [byte n] s →
      (∀ h : n < 40,
        let r := s.loop.nodes[n]
        let record : List Byte :=
          [match r.state with
            | .unpolled => (0 : Byte)
            | .ok => 1
            | .missing => 2
            | .fault => 3, byte r.missCount, byte r.goodCount] ++
          bytes2 r.exchanges ++ bytes2 r.misses ++ time r.lastAnswer ++ time r.lastMiss
        (24 ≤ n → exec (.readNode p) s = .next (withReply p 0x00 record s)) ∧
        ∀ hj : n < 24,
          let j : SwitchNo := ⟨n, hj⟩
          (j ∉ s.loop.urgent → exec (.readNode p) s = .next (withReply p 0x00 (record ++ [0, 0, 2]) s)) ∧
          ∀ before after, s.loop.urgent = before ++ j :: after → j ∉ before →
            exec (.readNode p) s = .next (withReply p 0x00
              (record ++ [1, byte (before.length + 1), if s.switches[j].commanded = .thrown then 0 else 1]) s)) ∧
      (40 ≤ n → n ≤ 255 → exec (.readNode p) s = .next (withReply p 0x14 [] s)))

/-! ### Events and flags (Chapter 11) -/

/-- Raising an event: each port decides alone by its mask and its room, a drop is counted and flagged;
NODE_FAULT and MISROUTE set their sticky flags on every port, whatever its mask, and every other flag stays; and
nothing but the event state changes (R192, R196). -/
def Obligations.RaisingOffersToEveryPort : Prop :=
  ∀ (e : Event) (s : State),
    raise e s = { s with events := (raise e s).events } ∧
    ∀ p : Port,
      ((raise e s).events.get p).mask = (s.events.get p).mask ∧
      ((s.events.get p).mask.getLsbD e.maskBit = false →
        ((raise e s).events.get p).queue = (s.events.get p).queue ∧
        ((raise e s).events.get p).drops = (s.events.get p).drops ∧
        ((raise e s).events.get p).flags.overrun = (s.events.get p).flags.overrun) ∧
      ((s.events.get p).mask.getLsbD e.maskBit = true → (s.events.get p).queue.length < 32 →
        ((raise e s).events.get p).queue = (s.events.get p).queue ++ [{ time := s.clock, event := e }] ∧
        ((raise e s).events.get p).drops = (s.events.get p).drops ∧
        ((raise e s).events.get p).flags.overrun = (s.events.get p).flags.overrun) ∧
      ((s.events.get p).mask.getLsbD e.maskBit = true → 32 ≤ (s.events.get p).queue.length →
        ((raise e s).events.get p).queue = (s.events.get p).queue ∧
        ((raise e s).events.get p).drops =
          (if (s.events.get p).drops < 255 then (s.events.get p).drops + 1 else (s.events.get p).drops) ∧
        ((raise e s).events.get p).flags.overrun = true) ∧
      ((s.events.get p).queue.length ≤ 32 → ((raise e s).events.get p).queue.length ≤ 32) ∧
      ((raise e s).events.get p).flags.railFault = (s.events.get p).flags.railFault ∧
      ((raise e s).events.get p).flags.satSeen = (s.events.get p).flags.satSeen ∧
      (((raise e s).events.get p).flags.nodeFaultSeen = true ↔
        (s.events.get p).flags.nodeFaultSeen = true ∨ ∃ a n m, e = .nodeFault a n m) ∧
      (((raise e s).events.get p).flags.misrouteSeen = true ↔
        (s.events.get p).flags.misrouteSeen = true ∨ ∃ c j n, e = .misroute c j n)

/-- A record is twelve bytes, its class code one more than its mask bit, its time low byte first. For each kind of
event: its class and kind codes, its subjects and its data, with the codes of states, positions, sensor kinds,
verdicts, reasons and causes; and VERDICT data holds the conflict set, the first conflicting car, the flags and
the verdict at R191's bits (R190, R191). The model's choice: the subjects of REVOKED, STORE_DONE and STORE_FAIL
(log entry 36). -/
def Obligations.RecordLayout : Prop :=
  (∀ r : EventRecord, r.event.maskBit < 9 ∧ r.bytes.length = 12 ∧ r.bytes.head? = some (byte (r.event.maskBit + 1))) ∧
  (∀ t : Time,
    let record : Event → Byte → Byte → Byte → Byte → List Byte → Prop := fun e cls kind a b data =>
      ({ time := t, event := e } : EventRecord).bytes =
        [cls, kind, t.extractLsb' 0 8, t.extractLsb' 8 8, t.extractLsb' 16 8, t.extractLsb' 24 8, a, b] ++ data
    let car : Option CarNo → Byte := fun c => byteOrNone (c.map Fin.val)
    (∀ (h : HandsetNo) (n : Nat), record (.seekStart h n) 1 1 (byte h.val) 0xFF [byte n, 0, 0, 0]) ∧
    (∀ (h : HandsetNo) (c : Option CarNo) (x : SeekRefusal),
      record (.seekRefused h c x) 1 2 (byte h.val) (car c) [byte x.code, 0, 0, 0]) ∧
    (∀ (h : HandsetNo) (u : Time), record (.seekTimeout h u) 1 3 (byte h.val) 0xFF (bytes4 u)) ∧
    (∀ (h : HandsetNo) (c : CarNo) (x : BindSource),
      record (.bound h c x) 1 4 (byte h.val) (byte c.val) [byte x.code, 0, 0, 0]) ∧
    (∀ (h : HandsetNo) (c : Option CarNo) (x : UnbindCause),
      record (.unbound h c x) 1 5 (byte h.val) (car c) [byte x.code, 0, 0, 0]) ∧
    (∀ v : VerdictRecord, record (.verdict v) 2 1 (byte v.car.val) (byte v.switch.val) (bytes4 v.data)) ∧
    (∀ (c : CarNo) (j : SwitchNo) (n : Nat),
      record (.misroute c j n) 3 1 (byte c.val) (byte j.val) [byte n, 0, 0, 0]) ∧
    (∀ (c : CarNo) (j : SwitchNo) (x : SwitchState),
      record (.carried c j x) 3 2 (byte c.val) (byte j.val) [byte x.code, 0, 0, 0]) ∧
    (∀ (c : CarNo) (q : Sensor) (x : RefixReason), record (.refix c q x) 3 3 (byte c.val) (byte q.node.val)
      [byte (sensorCode q.kind), byte x.code, 0, 0]) ∧
    (∀ (j : SwitchNo) (a b : SwitchState) (x : SwitchCause) (d : Confirmed), record (.switchState j a b x d) 4 1
      (byte j.val) 0xFF [byte a.code, byte b.code, byte x.code, byte d.code]) ∧
    (∀ (c : CarNo) (j : SwitchNo) (x : RevokeCause),
      record (.revoked c j x) 4 2 (byte c.val) (byte j.val) [byte x.code, 0, 0, 0]) ∧
    (∀ (c : CarNo) (j : SwitchNo) (u : Time),
      record (.staleRes c j u) 4 3 (byte c.val) (byte j.val) (bytes4 u)) ∧
    (∀ (a : NodeNo) (n m : Nat), record (.nodeFault a n m) 5 1 (byte a.val) 0xFF (bytes2 n ++ bytes2 m)) ∧
    (∀ (a : NodeNo) (u : Time), record (.nodeOk a u) 5 2 (byte a.val) 0xFF (bytes4 u)) ∧
    (∀ (a : NodeNo) (n : Nat), record (.nodeDropped a n) 5 3 (byte a.val) 0xFF [byte n, 0, 0, 0]) ∧
    (∀ (a : NodeNo) (id : Nat) (k : SensorKind) (x : BadCarReason) (n : Nat), record (.badCar a id k x n) 5 4
      (byte a.val) (byte id) ([byte (sensorCode k), byte x.code] ++ bytes2 n)) ∧
    (∀ (h : HandsetNo) (c : Option CarNo) (n : Nat),
      record (.handsetActive h c n) 6 1 (byte h.val) (car c) (bytes2 n ++ [0, 0])) ∧
    (∀ (h : HandsetNo) (c : Option CarNo) (u : Time),
      record (.handsetLost h c u) 6 2 (byte h.val) (car c) (bytes4 u)) ∧
    (∀ (h : HandsetNo) (c : Option CarNo) (x : AbsentCause),
      record (.handsetAbsent h c x) 6 3 (byte h.val) (car c) [byte x.code, 0, 0, 0]) ∧
    (∀ (a b : RaceState) (x : RaceCause),
      record (.raceState a b x) 7 1 0xFF 0xFF [byte a.code, byte b.code, byte x.code, 0]) ∧
    (∀ a : RaceState, record (.railFault a) 7 2 0xFF 0xFF [byte a.code, 0, 0, 0]) ∧
    (∀ a : RaceState, record (.railClear a) 7 3 0xFF 0xFF [byte a.code, 0, 0, 0]) ∧
    (∀ (x : StoreOp) (g : BitVec 16),
      record (.storeDone x g) 8 1 0xFF 0xFF ([byte x.code, 0] ++ bytes2 g.toNat)) ∧
    (∀ (x : StoreOp) (y : StoreReason),
      record (.storeFail x y) 8 2 0xFF 0xFF [byte x.code, byte y.code, 0, 0]) ∧
    (∀ (c : CarNo) (j : SwitchNo) (x : Verdict),
      record (.sat c j x) 9 1 (byte c.val) (byte j.val) [byte x.code, 0, 0, 0])) ∧
  ([RaceState.setup, .run, .caution, .halt].map RaceState.code = List.range 4 ∧
    [SwitchState.straight, .throwing, .thrown, .returning, .locked, .fault].map SwitchState.code = List.range 6 ∧
    [Position.straight, .thrown].map Position.code = List.range 2 ∧
    [Confirmed.straight, .thrown, .unknown].map Confirmed.code = List.range 3 ∧
    [SensorKind.entry, .exitStraight, .exitThrown, .gate].map sensorCode = List.range 4 ∧
    [Verdict.grant, .denySwitch, .denyLate, .denyReserved, .denyTraffic, .denyFull].map Verdict.code =
      List.range 6 ∧
    [SeekRefusal.alreadySeeking, .queueFull, .storeBusy].map SeekRefusal.code = List.range 3 ∧
    [BindSource.gate, .console].map BindSource.code = List.range 2 ∧
    [UnbindCause.reseek, .console, .disabled].map UnbindCause.code = List.range 3 ∧
    [RefixReason.noFix, .stale, .time, .unreachable, .distance].map RefixReason.code = List.range 5 ∧
    [SwitchCause.throwOrder, .returnOrder, .confirm, .slip, .deadline, .nodeFault, .lock, .unlock, .clear].map
      SwitchCause.code = List.range 9 ∧
    [RevokeCause.superseded, .fault, .lock, .halt].map RevokeCause.code = List.range 4 ∧
    [BadCarReason.invalidId, .disabled].map BadCarReason.code = List.range 2 ∧
    [AbsentCause.lowInput, .scanSet].map AbsentCause.code = List.range 2 ∧
    [RaceCause.start, .caution, .clearCaution, .halt, .resume, .setup, .rail].map RaceCause.code = List.range 7 ∧
    [StoreOp.save, .load].map StoreOp.code = List.range 2 ∧
    [StoreReason.noAck, .marker, .sum, .range, .binding, .state].map StoreReason.code = List.range 6) ∧
  ∀ v : VerdictRecord,
    (∀ n < 12, v.data.getLsbD n = v.conflicts.getLsbD n) ∧
    (v.data.extractLsb' 12 4).toNat = (match v.firstConflict with
      | some c => c.val
      | none => 15) ∧
    v.data.getLsbD 16 = v.flagG ∧ v.data.getLsbD 17 = v.flagC ∧ v.data.getLsbD 18 = v.flagL ∧
    v.data.getLsbD 19 = v.flagS ∧ v.data.getLsbD 20 = v.flagU ∧
    (v.data.extractLsb' 21 3).toNat = v.verdict.code ∧ (v.data.extractLsb' 24 8) = 0

/-- The event requests act on the asking port's own queue, mask, flags and drop count alone, and the
attention line follows the queue and, for the base port, frame-pending (R184, R189, R193 to R196). -/
def Obligations.EventRequests : Prop :=
  ∀ (p : Port) (s : State),
    (FrameEnded p 0x03 [] s → exec (.readEvents p) s =
      .next (withReply p (if 0 < (s.events.get p).drops then 0x02 else 0x00)
        ([byte ((s.events.get p).queue.length - 8), byte (min 8 (s.events.get p).queue.length)] ++
          ((s.events.get p).queue.take 8).flatMap EventRecord.bytes)
        (s.modifyEvents p fun q => { q with queue := q.queue.drop 8 }))) ∧
    (∀ mask : BitVec 9, FrameEnded p 0x04 [mask.extractLsb' 0 8, mask.extractLsb' 8 8] s →
      exec (.setEventMask p) s =
        .next (withReply p 0x00 [] (s.modifyEvents p fun q => { q with mask := mask }))) ∧
    (∀ keep : BitVec 5, FrameEnded p 0x05 [keep.setWidth 8] s → exec (.clearFlags p) s =
      .next (withReply p 0x00 [] (s.modifyEvents p fun q => { q with flags :=
        { railFault := q.flags.railFault && keep.getLsbD 0
          overrun := q.flags.overrun && keep.getLsbD 1
          satSeen := q.flags.satSeen && keep.getLsbD 2
          nodeFaultSeen := q.flags.nodeFaultSeen && keep.getLsbD 3
          misrouteSeen := q.flags.misrouteSeen && keep.getLsbD 4 } }))) ∧
    (FrameEnded p 0x06 [] s → exec (.clearQueue p) s =
      .next (withReply p 0x00 [] (s.modifyEvents p fun q => { q with queue := [], drops := 0 }))) ∧
    (s.resetHeld = false →
      ((s.events.get p).queue ≠ [] ∨ (p = .base ∧ s.frames.framePending = true) →
        attentionLine s p = .drivenLow) ∧
      (¬((s.events.get p).queue ≠ [] ∨ (p = .base ∧ s.frames.framePending = true)) →
        attentionLine s p = (match (s.ports.get p).drive with
          | .pushPull => .drivenHigh
          | .openDrain => .undriven)))

/-- Every step keeps each port's queue within 32 records and its drop count within 255 (R192). -/
def Obligations.EventLawKept : Prop := KeptByEveryStep EventLaw

/-! ### Race states (Chapter 9) -/

/-- START taken in SETUP is tested in R164's order: BUSY, then the validation, then the rail hold; when all
pass, the race is RUN, map-valid is set and RACE_STATE is raised, and nothing else changes. -/
def Obligations.StartTested : Prop :=
  ∀ s : State, FrameEnded .console 0x10 [0] s → s.race = .setup →
    (s.store ≠ .idle → exec (.start .console) s = .next (withReply .console 0x16 [] s)) ∧
    (s.store = .idle →
      (s.map.validate ≠ none → exec (.start .console) s =
        .next (withReply .console 0x13 [0x01] { s with mapValid := false })) ∧
      (s.map.validate = none →
        (s.railHold = true → exec (.start .console) s =
          .next (withReply .console 0x13 [0x02] { s with mapValid := true })) ∧
        (s.railHold = false → exec (.start .console) s =
          .next (withReply .console 0x00 []
            (raise (.raceState .setup .run .start) { s with mapValid := true, race := .run })))))

/-- RESUME taken in HALT is tested in the order of R164; when all pass, the race is RUN with a warm restart:
lists emptied silently, intents NONE, estimates 0, kept fixes marked stale, and nothing else changes
(R41, R167). -/
def Obligations.ResumeTested : Prop :=
  ∀ s : State, FrameEnded .console 0x10 [4] s → s.race = .halt →
    (s.store ≠ .idle → exec (.resume .console) s = .next (withReply .console 0x16 [] s)) ∧
    (s.store = .idle →
      (s.map.validate ≠ none → exec (.resume .console) s =
        .next (withReply .console 0x13 [0x01] { s with mapValid := false })) ∧
      (s.map.validate = none →
        (s.railHold = true → exec (.resume .console) s =
          .next (withReply .console 0x13 [0x02] { s with mapValid := true })) ∧
        (s.railHold = false → exec (.resume .console) s =
          .next (withReply .console 0x00 [] (raise (.raceState .halt .run .resume) { s with
            mapValid := true
            race := .run
            lists := Vector.ofFn fun _ => []
            cars := Vector.ofFn fun c : CarNo => { s.cars[c] with
              intent := none, speed := 0, stale := s.cars[c].fix.isSome || s.cars[c].stale } })))))

/-- CAUTION taken in RUN clears every intent silently; CLEAR CAUTION taken in CAUTION goes back to RUN with
no warm restart; each raises RACE_STATE and changes nothing else (R165). -/
def Obligations.CautionAndBack : Prop :=
  ∀ s : State,
    (FrameEnded .console 0x10 [1] s → s.race = .run → exec (.caution .console) s =
      .next (withReply .console 0x00 [] (raise (.raceState .run .caution .caution) { s with
        race := .caution, cars := Vector.ofFn fun c : CarNo => { s.cars[c] with intent := none } }))) ∧
    (FrameEnded .console 0x10 [2] s → s.race = .caution → exec (.clearCaution .console) s =
      .next (withReply .console 0x00 [] (raise (.raceState .caution .run .clearCaution) { s with race := .run })))

/-- HALT, from any other race state: RACE_STATE is raised, every intent becomes NONE, and the reservation lists are
revoked in ascending switch number, each with REVOKED for its entries in list order and then the return request;
so every list is empty, every switch that was THROWN or THROWING for a reservation is commanded STRAIGHT with a
new deadline and joins the urgent list, every other switch stands; and nothing else changes but events and the
reply (R101, R105, R166). The model's choice: SWC answers each return request before the next list is revoked (log
entry 38). -/
def Obligations.HaltClearsTheField : Prop :=
  (∀ s : State, FrameEnded .console 0x10 [3] s → s.race ≠ .halt →
    exec (.halt .console) s = .next (withReply .console 0x00 [] (revokeAllLists
      (raise (.raceState s.race .halt .halt) { s with
        race := .halt, cars := Vector.ofFn fun c : CarNo => { s.cars[c] with intent := none } })))) ∧
  ∀ u : State,
    let t := revokeAllLists u
    let returned : SwitchNo → Bool := fun j =>
      !u.lists[j].isEmpty && (u.switches[j].state == .thrown || u.switches[j].state == .throwing)
    t = (List.finRange 24).foldl (fun x j => revokeList .halt j x) u ∧
    (∀ (cause : RevokeCause) (j : SwitchNo),
      (u.lists[j] = [] → revokeList cause j u = u) ∧
      ∀ e es, u.lists[j] = e :: es → revokeList cause j u = returnRequest j
        ((e :: es).foldl (fun x e => raise (.revoked e.car j cause) x) { u with lists := u.lists.set j [] })) ∧
    (∀ j : SwitchNo, t.lists[j] = []) ∧
    (∀ j : SwitchNo, returned j = true → t.switches[j] = { u.switches[j] with
      state := .returning, commanded := .straight
      deadline := some (u.clock + BitVec.ofNat 32 ((u.map.switch j).actuation + 200)) }) ∧
    (∀ j : SwitchNo, returned j = false → t.switches[j] = u.switches[j]) ∧
    t = { u with lists := t.lists, switches := t.switches, events := t.events, loop := { u.loop with
      urgent := u.loop.urgent ++ (List.finRange 24).filter fun j => returned j && decide (j ∉ u.loop.urgent) } }

/-- The other answers of SET RACE STATE: SETUP taken in HALT; a target that R163's table does not carry out
from the state found, answered NOCHANGE with no effect; a target above 5, refused with RANGE. -/
def Obligations.OtherRaceTargets : Prop :=
  ∀ s : State,
    (FrameEnded .console 0x10 [5] s → s.race = .halt → exec (.setup .console) s =
      .next (withReply .console 0x00 [] (raise (.raceState .halt .setup .setup) { s with race := .setup }))) ∧
    (FrameEnded .console 0x10 [0] s → s.race ≠ .setup →
      exec (.start .console) s = .next (withReply .console 0x01 [] s)) ∧
    (FrameEnded .console 0x10 [1] s → s.race ≠ .run →
      exec (.caution .console) s = .next (withReply .console 0x01 [] s)) ∧
    (FrameEnded .console 0x10 [2] s → s.race ≠ .caution →
      exec (.clearCaution .console) s = .next (withReply .console 0x01 [] s)) ∧
    (FrameEnded .console 0x10 [3] s → s.race = .halt →
      exec (.halt .console) s = .next (withReply .console 0x01 [] s)) ∧
    (FrameEnded .console 0x10 [4] s → s.race ≠ .halt →
      exec (.resume .console) s = .next (withReply .console 0x01 [] s)) ∧
    (FrameEnded .console 0x10 [5] s → s.race ≠ .halt →
      exec (.setup .console) s = .next (withReply .console 0x01 [] s)) ∧
    (∀ target : Byte, 5 < target.toNat → FrameEnded .console 0x10 [target] s →
      exec (.setRaceStateBadTarget .console) s = .next (withReply .console 0x14 [] s))

/-- RAIL FAULT latches and flags in every race state, raises RAIL_FAULT, and in RUN or CAUTION halts the race as
HALT does, with cause RAIL (`HaltClearsTheField` says what the revocation does); RAIL CLEAR clears a hold that is
set and leaves the race state (R169, R170). -/
def Obligations.RailFaultAndClear : Prop :=
  ∀ s : State,
    let latched : State := { s with
      railHold := true
      events := s.events.map fun q => { q with flags := { q.flags with railFault := true } } }
    (FrameEnded .base 0x11 [] s →
      (s.race = .setup ∨ s.race = .halt → exec (.railFault .base) s =
        .next (withReply .base 0x00 [] (raise (.railFault s.race) latched))) ∧
      (s.race = .run ∨ s.race = .caution →
        let u := revokeAllLists (raise (.raceState s.race .halt .rail) { raise (.railFault s.race) latched with
          race := .halt, cars := Vector.ofFn fun c : CarNo => { s.cars[c] with intent := none } })
        exec (.railFault .base) s = .next (withReply .base 0x00 [] u) ∧
        u.railHold = true ∧ u.race = .halt ∧ (∀ p : Port, (u.events.get p).flags.railFault = true) ∧
        (∀ c : CarNo, u.cars[c] = { s.cars[c] with intent := none }) ∧ (∀ j : SwitchNo, u.lists[j] = []) ∧
        (∀ j : SwitchNo, s.lists[j] ≠ [] ∧ (s.switches[j].state = .thrown ∨ s.switches[j].state = .throwing) →
          u.switches[j] = { s.switches[j] with
            state := .returning, commanded := .straight
            deadline := some (s.clock + BitVec.ofNat 32 ((s.map.switch j).actuation + 200)) } ∧
          j ∈ u.loop.urgent) ∧
        (∀ j : SwitchNo, ¬(s.lists[j] ≠ [] ∧ (s.switches[j].state = .thrown ∨ s.switches[j].state = .throwing)) →
          u.switches[j] = s.switches[j]) ∧
        u.loop = { s.loop with urgent := u.loop.urgent } ∧
        u = { s with
          railHold := true, race := .halt, cars := u.cars, lists := u.lists, switches := u.switches,
          loop := u.loop, events := u.events })) ∧
    (FrameEnded .base 0x12 [] s →
      (s.railHold = true → exec (.railClear .base) s =
        .next (withReply .base 0x00 [] (raise (.railClear s.race) { s with railHold := false }))) ∧
      (s.railHold = false → exec (.railClear .base) s = .next (withReply .base 0x01 [] s)))

/-- Every step keeps the race out of RUN and CAUTION while the rail hold is set (R162). -/
def Obligations.RailLawKept : Prop := KeptByEveryStep RailLaw

/-- The race state changes by SET RACE STATE, RAIL FAULT and a power-on reset alone, and the rail hold by
RAIL FAULT, RAIL CLEAR and a power-on reset alone (R162). The rise of chip select, and the byte after 16
fillers, are left out, since they may take an ended frame. -/
def Obligations.RaceChangesOnlyByItsRequests : Prop :=
  ∀ (i : Instr) (s t : State), exec i s = .next t →
    (∀ x, i ≠ .powerOnReset x) → (∀ p b, i = .masterSendsByte p b → (s.ports.get p).filler < 16) →
    (∀ p, i ∉ [Instr.start p, .caution p, .clearCaution p, .halt p, .resume p, .setup p, .railFault p,
      .chipSelectRise p]) →
    t.race = s.race ∧ ((∀ p, i ≠ .railClear p) → t.railHold = s.railHold)

/-! ### The track map (Chapter 1) -/

/-- An accepted WRITE SEGMENT or SET PAIRING GATE stores its record and has the two effects of every map
write; and the refusals of all four map writes, in R16's order, change nothing (R2, R4, R7, R8, R16, R17). That
the stale mark of a fix taken away stays is the model's choice (log entry 22). -/
def Obligations.MapWritesTakenOrRefused : Prop :=
  ∀ s : State,
    (∀ x ∈ [Request.writeSegment, .writeSwitch, .writeGate, .setPairingGate], ∀ body,
      FrameEnded .console x.code body s → x.lengthFits body = true → x.reservedSet body = false →
      (s.race ≠ .setup → exec (x.instr .console) s = .next (withReply .console 0x13 [] s)) ∧
      (s.race = .setup → s.store ≠ .idle → exec (x.instr .console) s = .next (withReply .console 0x16 [] s))) ∧
    (s.race = .setup → s.store = .idle →
      (∀ (n : Nat) (r : Segment), n ≤ 255 → r.lane ≤ 255 → r.length ≤ 65535 → r.next ≤ 255 →
        FrameEnded .console 0x20 (byte n :: r.bytes) s →
        (∀ h : n < 64, r.lane ≤ 3 → 50 ≤ r.length → r.length ≤ 10000 → r.next ≤ 63 →
          exec (.writeSegment .console) s = .next (withReply .console 0x00 [] { s with
            map := { s.map with segments := s.map.segments.set n r }
            mapValid := false
            cars := Vector.ofFn fun c : CarNo => { s.cars[c] with fix := none, ageExpiry := none } })) ∧
        (64 ≤ n ∨ 3 < r.lane ∨ r.length < 50 ∨ 10000 < r.length ∨ 63 < r.next →
          exec (.writeSegment .console) s = .next (withReply .console 0x14 [] s))) ∧
      (∀ g : Byte, FrameEnded .console 0x26 [g] s →
        (g.toNat ≤ 15 ∨ g = 0xFF → exec (.setPairingGate .console) s = .next (withReply .console 0x00 [] { s with
          map := { s.map with pairingGate := if g = 0xFF then none else some g.toNat }
          mapValid := false
          cars := Vector.ofFn fun c : CarNo => { s.cars[c] with fix := none, ageExpiry := none } })) ∧
        (15 < g.toNat → g ≠ 0xFF → exec (.setPairingGate .console) s = .next (withReply .console 0x14 [] s))) ∧
      (∀ (n : Nat) (r : Switch), n ≤ 255 → r.home ≤ 255 → r.thrown ≤ 255 → r.entryOffset ≤ 65535 →
        r.exitStraightOffset ≤ 65535 → r.exitThrownOffset ≤ 65535 → r.zoneLength ≤ 65535 →
        r.group.all (· ≤ 254) = true → r.actuation ≤ 65535 →
        FrameEnded .console 0x22 (byte n :: r.bytes) s →
        (24 ≤ n ∨ 63 < r.home ∨ 63 < r.thrown ∨ 9999 < r.entryOffset ∨ 9999 < r.exitStraightOffset ∨
            9999 < r.exitThrownOffset ∨ r.zoneLength < 50 ∨ 2000 < r.zoneLength ∨ r.group.any (7 < ·) = true ∨
            r.actuation < 50 ∨ 1000 < r.actuation) →
        exec (.writeSwitch .console) s = .next (withReply .console 0x14 [] s)) ∧
      (∀ (n : Nat) (r : Gate), n ≤ 255 → r.segment ≤ 255 → r.offset ≤ 65535 →
        FrameEnded .console 0x24 (byte n :: r.bytes) s → (16 ≤ n ∨ 63 < r.segment ∨ 9999 < r.offset) →
        exec (.writeGate .console) s = .next (withReply .console 0x14 [] s)))

/-- An accepted WRITE SWITCH or WRITE GATE stores its record with the effects of a map write, and the switch's
runtime record, its node, the urgent list and the exchange in flight follow a change of the used field: a node
that leaves the polled set keeps its counts, and an exchange with it is to be discarded; an idle loop then
starts (R4, R7, R17, R130, R133, R145). That the stale mark of a fix taken away stays, and the counts of an idle
loop, are the model's choices (log entries 21 and 22). -/
def Obligations.SwitchAndGateWritesMoveNodes : Prop :=
  ∀ s : State, s.race = .setup → s.store = .idle →
    let written : TrackMap → State := fun m => { s with
      map := m, mapValid := false
      cars := Vector.ofFn fun c : CarNo => { s.cars[c] with fix := none, ageExpiry := none } }
    let started : State → State := fun u =>
      if u.loop.exchange = none ∧ ∃ a : NodeNo, u.map.polled a = true then arbitrate u else u
    let entered : NodeRecord := { state := .ok, missCount := 0, goodCount := 0, exchanges := 0, misses := 0,
                                  lastAnswer := none, lastMiss := none }
    let leave : NodeNo → Loop := fun a => { s.loop with
      nodes := s.loop.nodes.set a { s.loop.nodes[a] with state := .unpolled }
      exchange := s.loop.exchange.map fun x => if x.node = a then { x with discard := true } else x }
    (∀ (j : SwitchNo) (r : Switch), r.inRange = true → FrameEnded .console 0x22 (byte j.val :: r.bytes) s →
      let w := written { s.map with switches := s.map.switches.set j r }
      let outcome : State → Prop := fun u =>
        exec (.writeSwitch .console) s = .next (withReply .console 0x00 [] (started u))
      ((s.map.switch j).used = r.used → outcome w) ∧
      ((s.map.switch j).used = false → r.used = true → outcome { w with
        switches := s.switches.set j { s.switches[j] with
          state := .returning, commanded := .straight, confirmed := .unknown
          deadline := some (s.clock + BitVec.ofNat 32 (r.actuation + 200)) }
        loop := { s.loop with
          nodes := s.loop.nodes.set (switchNode j) entered
          urgent := if j ∈ s.loop.urgent then s.loop.urgent else s.loop.urgent ++ [j] } }) ∧
      ((s.map.switch j).used = true → r.used = false → outcome { w with
        switches := s.switches.set j { s.switches[j] with
          state := .straight, commanded := .straight, confirmed := .unknown, deadline := none }
        loop := { leave (switchNode j) with urgent := s.loop.urgent.filter (· != j) } })) ∧
    (∀ (g : Fin 16) (r : Gate), r.inRange = true → FrameEnded .console 0x24 (byte g.val :: r.bytes) s →
      let w := written { s.map with gates := s.map.gates.set g r }
      let outcome : State → Prop := fun u =>
        exec (.writeGate .console) s = .next (withReply .console 0x00 [] (started u))
      ((s.map.gate g.val).used = r.used → outcome w) ∧
      ((s.map.gate g.val).used = false → r.used = true →
        outcome { w with loop := { s.loop with nodes := s.loop.nodes.set (gateNode g) entered } }) ∧
      ((s.map.gate g.val).used = true → r.used = false → outcome { w with loop := leave (gateNode g) }))

/-- A validation passes exactly when every check of R14 does, and otherwise reports the first check that fails:
the whole map, then segments, switches, gates and the pairing gate, each in ascending number, the checks of a
record in order; VALIDATE MAP writes map-valid from it and returns it in four bytes, but is refused while SSI is
LOADING (R14, R15). The model's choices: the codes of the reply (log entry 23) and a number outside its table
(log entry 26). -/
def Obligations.ValidationIsExact : Prop :=
  (∀ m : TrackMap, m.validate = none ↔
    (∃ n < 64, (m.segment n).used = true) ∧
    (∀ n < 64, (m.segment n).used = true → (m.segment (m.segment n).next).used = true) ∧
    (∀ j : SwitchNo, (m.switch j).used = true →
      (m.segment (m.switch j).home).used = true ∧
      (m.segment (m.segment (m.switch j).home).next).used = true ∧
      (m.segment (m.switch j).thrown).used = true ∧
      (m.segment (m.switch j).home).lane ≠ (m.segment (m.switch j).thrown).lane ∧
      (m.switch j).entryOffset < (m.segment (m.switch j).home).length ∧
      (m.switch j).exitStraightOffset < (m.segment (m.segment (m.switch j).home).next).length ∧
      (m.switch j).exitThrownOffset < (m.segment (m.switch j).thrown).length ∧
      ∀ i : SwitchNo, i < j → (m.switch i).used = true → (m.switch i).home ≠ (m.switch j).home) ∧
    (∀ g < 16, (m.gate g).used = true →
      (m.segment (m.gate g).segment).used = true ∧ (m.gate g).offset < (m.segment (m.gate g).segment).length) ∧
    (∀ g, m.pairingGate = some g → (m.gate g).used = true)) ∧
  (∀ m : TrackMap,
    let fails : MapRecord → MapReason → Bool → List MapFault := fun x y b =>
      if b then [{ record := x, reason := y }] else []
    let used : Nat → Bool := fun n => (m.segment n).used
    m.validate = (fails .whole .empty ((List.range 64).all fun n => !used n) ++
      ((List.range 64).flatMap fun n => fails (.segment n) .nextUnused (used n && !used (m.segment n).next)) ++
      ((List.finRange 24).flatMap fun j =>
        let r := m.switch j
        let home := m.segment r.home
        let check := fails (.switch j.val)
        if r.used then
          check .nextUnused (!(used r.home && used home.next && used r.thrown)) ++
            check .sameLane (home.lane == (m.segment r.thrown).lane) ++
            check .offset (decide (home.length ≤ r.entryOffset) ||
              decide ((m.segment home.next).length ≤ r.exitStraightOffset) ||
              decide ((m.segment r.thrown).length ≤ r.exitThrownOffset)) ++
            check .sharedHome ((List.finRange 24).any fun i =>
              decide (i < j) && (m.switch i).used && (m.switch i).home == r.home)
        else []) ++
      ((List.range 16).flatMap fun g =>
        let r := m.gate g
        if r.used then
          fails (.gate g) .gateSegment (!used r.segment) ++
            fails (.gate g) .offset (decide ((m.segment r.segment).length ≤ r.offset))
        else []) ++
      (match m.pairingGate with
        | some g => fails (.pairingGate g) .pairingGate (!(m.gate g).used)
        | none => [])).head?) ∧
  ([MapReason.empty, .nextUnused, .sameLane, .offset, .sharedHome, .gateSegment, .pairingGate].map MapReason.code =
      List.range 7 ∧
    validationReply none = [0, 0, 0xFF, 0xFF] ∧
    ∀ (n : Nat) (y : MapReason),
      [MapRecord.whole, .segment n, .switch n, .gate n, .pairingGate n].map
          (fun x => validationReply (some { record := x, reason := y })) =
        [[1, 0, 0xFF, byte y.code], [1, 1, byte n, byte y.code], [1, 2, byte n, byte y.code],
          [1, 3, byte n, byte y.code], [1, 4, byte n, byte y.code]]) ∧
  ∀ s : State, FrameEnded .console 0x27 [] s →
    (s.store = .loading → exec (.validateMap .console) s = .next (withReply .console 0x16 [] s)) ∧
    (s.store ≠ .loading → exec (.validateMap .console) s =
      .next (withReply .console 0x00 (validationReply s.map.validate)
        { s with mapValid := s.map.validate.isNone }))

/-- The n-th straight successor of a segment. -/
def Sys2Proof.Machine.TrackMap.successor (m : TrackMap) (start n : Nat) : Nat :=
  (fun x => (m.segment x).next)^[n] start

/-- A map walk gives a distance exactly when its target is the start segment, or is first met at one of the
next 63 straight successors with every segment up to it used; the distance is the lengths passed less the
offset (R11, R12). A walk from a sensor starts at its place: a sensor exists while its record is used and its kind
belongs to its node, and its place is R9's (R9, R10, R13); and the polled set follows the used fields (R132). -/
def Obligations.WalkFollowsSuccessors : Prop :=
  ∀ m : TrackMap,
    (∀ (start offset target : Nat) (d : Int), m.walk start offset target = some d ↔
      (m.segment start).used = true ∧ offset < (m.segment start).length ∧
      ((start = target ∧ d = -(offset : Int)) ∨
        (start ≠ target ∧ ∃ n, 1 ≤ n ∧ n ≤ 63 ∧ m.successor start n = target ∧
          (∀ i ≤ n, (m.segment (m.successor start i)).used = true) ∧
          (∀ i, 1 ≤ i → i < n → m.successor start i ≠ target) ∧
          d = (∑ i ∈ Finset.range n, ((m.segment (m.successor start i)).length : Int)) - offset))) ∧
    (∀ j : SwitchNo,
      let r := m.switch j
      let at_ : Nat × Nat → Option (Nat × Nat) := fun x => if r.used then some x else none
      m.polled (switchNode j) = r.used ∧
      m.resolve { node := switchNode j, kind := .entry } = at_ (r.home, r.entryOffset) ∧
      m.resolve { node := switchNode j, kind := .exitStraight } =
        at_ ((m.segment r.home).next, r.exitStraightOffset) ∧
      m.resolve { node := switchNode j, kind := .exitThrown } = at_ (r.thrown, r.exitThrownOffset) ∧
      m.resolve { node := switchNode j, kind := .gate } = none) ∧
    (∀ g : Fin 16,
      m.polled (gateNode g) = (m.gate g.val).used ∧
      m.resolve { node := gateNode g, kind := .gate } =
        (if (m.gate g.val).used then some ((m.gate g.val).segment, (m.gate g.val).offset) else none) ∧
      ∀ k : SensorKind, k ≠ .gate → m.resolve { node := gateNode g, kind := k } = none) ∧
    ∀ (q : Sensor) (target : Nat),
      (m.resolve q = none → m.walkFrom q target = none) ∧
      ∀ x, m.resolve q = some x → m.walkFrom q target = m.walk x.1 x.2 target

/-- Outside SETUP no command but a reset changes the map tables or the pairing-gate setting, so every block
may take the map as constant for the whole of a race (R16). The rise of chip select is left out, since after
a RESTART it is a reset, and the byte after 16 fillers, since it takes an ended frame. -/
def Obligations.MapConstantOutsideSetup : Prop :=
  ∀ (i : Instr) (s t : State), exec i s = .next t → s.race ≠ .setup →
    (∀ x, i ≠ .powerOnReset x) → (∀ p, i ≠ .chipSelectRise p) →
    (∀ p b, i = .masterSendsByte p b → (s.ports.get p).filler < 16) → t.map = s.map

/-! ### Cars, fixes and speed (Chapter 2) -/

/-- WRITE PROFILE: refused with STATE, BUSY or RANGE in R21's order; accepted, it replaces the profile whole,
and only a write that disables the car does more: its binding dissolved with cause DISABLED, its intent and
fix NONE with the age expiry cancelled, its estimate 0 (R21, R22). -/
def Obligations.ProfileWritten : Prop :=
  ∀ (n : Nat) (p : Profile) (s : State), n ≤ 255 → p.vmax ≤ 65535 → p.response ≤ 255 → p.length ≤ 65535 →
    FrameEnded .console 0x30 (byte n :: p.bytes) s →
    (s.race ≠ .setup → exec (.writeProfile .console) s = .next (withReply .console 0x13 [] s)) ∧
    (s.race = .setup → s.store ≠ .idle →
      exec (.writeProfile .console) s = .next (withReply .console 0x16 [] s)) ∧
    (s.race = .setup → s.store = .idle →
      (12 ≤ n ∨ p.vmax < 500 ∨ 8000 < p.vmax ∨ p.response < 1 ∨ 16 < p.response ∨ p.length < 60 ∨
          300 < p.length →
        exec (.writeProfile .console) s = .next (withReply .console 0x14 [] s)) ∧
      ∀ h : n < 12, p.inRange = true →
        (¬(s.cars[n].profile.enabled = true ∧ p.enabled = false) →
          exec (.writeProfile .console) s = .next (withReply .console 0x00 []
            { s with cars := s.cars.set n { s.cars[n] with profile := p } })) ∧
        (s.cars[n].profile.enabled = true → p.enabled = false →
          (s.cars[n].binding = none → exec (.writeProfile .console) s = .next (withReply .console 0x00 []
            { s with cars := s.cars.set n { s.cars[n] with
                profile := p, intent := none, speed := 0, fix := none, stale := false, ageExpiry := none } })) ∧
          (∀ k, s.cars[n].binding = some k → exec (.writeProfile .console) s = .next (withReply .console 0x00 []
            (raise (.unbound k (some ⟨n, h⟩) .disabled) { s with
              handsets := s.handsets.set k { s.handsets[k] with pairing := .idle }
              cars := s.cars.set n { s.cars[n] with
                profile := p, binding := none, intent := none, speed := 0, fix := none, stale := false,
                ageExpiry := none } })))))

/-- CAR's taking of a detection by the cases of R27: the same sensor, a refix with the first reason of R31
that applies, or a corrected estimate; in every case the fix becomes the detection's, the stale mark clears
and the age expiry is the new fix's own. The distance is R29's, the elapsed time R28's. The model's choice: a fix
more than 50,000 tu old is stale whether or not its age expiry has been taken (log entry 37). -/
def Obligations.DetectionsTakenByCase : Prop :=
  (∀ (k : CarNo) (q : Sensor) (t : Time) (s : State),
    let fixed : Car := { s.cars[k] with
      fix := some { sensor := q, time := t }, stale := false, ageExpiry := some (t + 50001) }
    let refixed : RefixReason → State := fun r => raise (.refix k q r) { s with cars := s.cars.set k { fixed with
      refixes := if s.cars[k].refixes < 255 then s.cars[k].refixes + 1 else s.cars[k].refixes } }
    (s.cars[k].fix = none → takeDetection k q t s = refixed .noFix) ∧
    ∀ p, s.cars[k].fix = some p →
      (p.sensor = q → takeDetection k q t s = { s with cars := s.cars.set k fixed }) ∧
      (p.sensor ≠ q →
        (s.cars[k].stale = true ∨ 50000 < (s.clock - p.time).toNat → takeDetection k q t s = refixed .stale) ∧
        (s.cars[k].stale = false → (s.clock - p.time).toNat ≤ 50000 →
          ((t - p.time).toInt ≤ 0 → takeDetection k q t s = refixed .time) ∧
          (1 ≤ (t - p.time).toInt →
            (s.map.fixDistance p.sensor q = none → takeDetection k q t s = refixed .unreachable) ∧
            ∀ d, s.map.fixDistance p.sensor q = some d →
              (d ≤ 0 → takeDetection k q t s = refixed .distance) ∧
              (0 < d → takeDetection k q t s = { s with cars := s.cars.set k { fixed with
                speed := correctedSpeed s.cars[k].speed (measuredSpeed d (t - p.time).toInt) } }))))) ∧
  ∀ (m : TrackMap) (p q : Sensor),
    (∀ j : SwitchNo, q = { node := switchNode j, kind := .exitThrown } →
      p = { node := switchNode j, kind := .entry } →
      m.fixDistance p q = some (((m.segment (m.switch j).home).length : Int) - (m.switch j).entryOffset +
        (m.switch j).exitThrownOffset)) ∧
    (¬(q.kind = .exitThrown ∧ p.kind = .entry ∧ p.node = q.node) →
      ∀ place, m.resolve q = some place → m.fixDistance p q = (m.walkFrom p place.1).map fun x => x + (place.2 : Int))

/-- The correction's arithmetic (R30): the measured speed is the distance times 10,000 over the time, rounded
down and limited to 8,000; the new estimate is a quarter of the old with three quarters of the measurement,
rounded to the nearest with halves up, and at most 8,000. -/
def Obligations.CorrectionArithmetic : Prop :=
  ∀ (k : CarNo) (q : Sensor) (t : Time) (s : State) (d e : Int),
    s.cars[k].speed ≤ 8000 → detectionCase s.map s.clock s.cars[k] q t = .corrected d e →
    ∃ v : Nat, (v ≤ 8000 ∧ v * e ≤ d * 10000 ∧ (v = 8000 ∨ d * 10000 < (v + 1) * e)) ∧
      (takeDetection k q t s).cars[k].speed = (s.cars[k].speed + 3 * v + 2) / 4 ∧
      (takeDetection k q t s).cars[k].speed ≤ 8000 ∧
      (takeDetection k q t s).cars[k].refixes = s.cars[k].refixes ∧
      (takeDetection k q t s).events = s.events

/-- One estimator step (R34): target, difference, a share of r sixteenths truncated toward zero with a least
step of one, and never past the target. -/
def Obligations.EstimatorStep : Prop :=
  ∀ vmax r step v : Nat, vmax ≤ 8000 → 1 ≤ r → r ≤ 16 → step ≤ 63 → v ≤ 8000 →
    let target := vmax * step / 63
    let delta : Int := (target : Int) - v
    let adj : Int := (delta * r).tdiv 16
    (estimate vmax r step v : Int) =
      v + (if adj = 0 ∧ delta ≠ 0 then (if 0 < delta then 1 else -1) else adj) ∧
    min v target ≤ estimate vmax r step v ∧ estimate vmax r step v ≤ max v target ∧
    (r = 16 → estimate vmax r step v = target) ∧ (v = target → estimate vmax r step v = v) ∧
    (v ≤ vmax → estimate vmax r step v ≤ vmax) ∧
    vmax * step ≤ 504000 ∧ (delta * r).natAbs ≤ 128000

/-- An arm request is taken in RUN for a car whose binding names the handset, and arms or re-arms the intent;
the expiries of intents and fixes act when the race clock reaches them (R26, R36, R37). The model's choices: an
expiry command that is not pending or comes before its time changes nothing (log entry 3), and what reached
means (log entry 30). -/
def Obligations.IntentsAndAges : Prop :=
  ∀ (c : CarNo) (s : State),
    (∀ h : HandsetNo,
      (s.race = .run → s.cars[c].binding = some h → armRequest h c s = { s with
        cars := s.cars.set c { s.cars[c] with
          intent := some (s.clock + BitVec.ofNat 32 (s.limits.intentHold * 100)) } }) ∧
      (s.race ≠ .run ∨ s.cars[c].binding ≠ some h → armRequest h c s = s)) ∧
    (s.resetHeld = false →
      (s.cars[c].intent = none → exec (.intentExpiry c) s = .next s) ∧
      (∀ t, s.cars[c].intent = some t →
        (reached s.clock t = true → exec (.intentExpiry c) s =
          .next { s with cars := s.cars.set c { s.cars[c] with intent := none } }) ∧
        (reached s.clock t = false → exec (.intentExpiry c) s = .next s)) ∧
      (s.cars[c].ageExpiry = none → exec (.ageExpiry c) s = .next s) ∧
      ∀ t, s.cars[c].ageExpiry = some t →
        (reached s.clock t = true → exec (.ageExpiry c) s =
          .next { s with cars := s.cars.set c { s.cars[c] with ageExpiry := none, stale := true } }) ∧
        (reached s.clock t = false → exec (.ageExpiry c) s = .next s))

/-- Every step keeps an intent ARMED only in RUN and only for a bound car (R36). -/
def Obligations.IntentLawKept : Prop := KeptByEveryStep IntentLaw

/-- Every step keeps the saved settings, the estimates and the steps within their ranges (R20, R23, R42, R52,
R188). -/
def Obligations.RangeLawKept : Prop := KeptByEveryStep RangeLaw

/-! ### Handsets (Chapter 3) -/

/-- The derivation of a step (R53), with the reversed calibration mirrored: 0 within the deadband, 63 at the
full point, and between them a quotient within 0 to 62. -/
def Obligations.StepDerivation : Prop :=
  ∀ z f b x : Nat,
    let k : Calibration := { zero := z, full := f, deadband := b }
    deriveStep k x ≤ 63 ∧
    (z < f →
      (x ≤ z + b → deriveStep k x = 0) ∧
      (z + b < x → f ≤ x → deriveStep k x = 63) ∧
      (z + b < x → x < f →
        deriveStep k x = (x - z - b) * 63 / (f - z - b) ∧ deriveStep k x ≤ 62)) ∧
    (f < z →
      (z ≤ x + b → deriveStep k x = 0) ∧
      (x + b < z → x ≤ f → deriveStep k x = 63) ∧
      (x + b < z → f < x →
        deriveStep k x = (z - x - b) * 63 / (z - f - b) ∧ deriveStep k x ≤ 62))

/-- The interval timer's expiry starts a round over the scan set and runs on; a round result of the round's
next channel sets the latch and FRESH and acts by R47's table, R48's debounce and R54's order, and changes
no other handset (R43, R44, R47, R48, R54, R56, R58). The model's choices: an expiry before its time and a result of
no round in flight do nothing (log entry 3), and a new round takes the place of an unfinished one (log
entry 14). -/
def Obligations.WiredRoundResults : Prop :=
  ∀ (ch : Channel) (raw : BitVec 12) (pressed : Bool) (s : State), s.resetHeld = false →
    (reached s.clock s.scanner.nextRound = true → exec .intervalTimerExpiry s = .next { s with
      scanner := { s.scanner with
        round := (List.finRange 8).filter fun c => c.val < 2 ^ (s.scanner.setCode + 1)
        nextRound := s.scanner.nextRound + BitVec.ofNat 32 (10 * 2 ^ s.scanner.intervalCode) } }) ∧
    (reached s.clock s.scanner.nextRound = false → exec .intervalTimerExpiry s = .next s) ∧
    (s.scanner.round.head? ≠ some ch → exec (.roundResult ch raw pressed) s = .next s) ∧
    ∀ rest, s.scanner.round = ch :: rest →
      let h := channelHandset ch
      let r := s.handsets[h]
      let step := deriveStep r.calibration raw.toNat
      let after : Handset → State := fun x => { s with
        scanner := { s.scanner with
          round := rest, latches := s.scanner.latches.set ch { raw := raw, fresh := true } }
        handsets := s.handsets.set h x }
      let seen : Handset := { r with lastSample := s.clock }
      (r.presence ≠ .active →
        (raw.toNat < 64 → exec (.roundResult ch raw pressed) s = .next (after { seen with presenceCount := 0 })) ∧
        (64 ≤ raw.toNat → r.presenceCount < 2 → exec (.roundResult ch raw pressed) s =
          .next (after { seen with presenceCount := r.presenceCount + 1 })) ∧
        (64 ≤ raw.toNat → 2 ≤ r.presenceCount → exec (.roundResult ch raw pressed) s =
          .next (raise (.handsetActive h r.pairing.car raw.toNat) (after { seen with
            presence := .active, presenceCount := 0, prevSample := some pressed, step := step
            holdTimer := if 0 < step then none else r.holdTimer })))) ∧
      (r.presence = .active → raw.toNat < 64 → 2 ≤ r.presenceCount → exec (.roundResult ch raw pressed) s =
        .next (raise (.handsetAbsent h r.pairing.car .lowInput) (after { seen with
          presence := .absent, presenceCount := 0, step := 0, button := false, prevSample := none,
          holdTimer := none }))) ∧
      (r.presence = .active → 64 ≤ raw.toNat ∨ r.presenceCount < 2 →
        let taken : Handset :=
          if 64 ≤ raw.toNat then
            { seen with presenceCount := 0, prevSample := some pressed, step := step
                        holdTimer := if 0 < step then none else r.holdTimer }
          else { seen with presenceCount := r.presenceCount + 1, prevSample := some pressed }
        (r.prevSample ≠ some pressed ∨ r.button = pressed →
          exec (.roundResult ch raw pressed) s = .next (after taken)) ∧
        (r.prevSample = some pressed → r.button ≠ pressed →
          (pressed = false → exec (.roundResult ch raw pressed) s =
            .next (after { taken with button := false, holdTimer := none })) ∧
          (pressed = true →
            let down : Handset := { taken with
              button := true, holdTimer := if taken.step = 0 then some s.clock else taken.holdTimer }
            (∀ c, r.pairing = .bound c → exec (.roundResult ch raw pressed) s =
              .next (armRequest h c (after down))) ∧
            (r.pairing.car = none → exec (.roundResult ch raw pressed) s = .next (after down)))))

/-- POST SAMPLES applies its samples in body order, skips those that name no radio handset, and answers with
the two counts; and what one accepted sample does, and its hold end and LOST time (R49, R50, R51, R54, R56, R58).
The model's choices: a hold end or a LOST time that is not due changes nothing (log entry 3), and what reached
means (log entry 30). -/
def Obligations.RadioSamples : Prop :=
  (∀ (samples : List (Byte × Byte × Bool)) (s : State), 1 ≤ samples.length → samples.length ≤ 8 →
    FrameEnded .radio 0x44
      (byte samples.length :: samples.flatMap fun x => [x.1, x.2.1, if x.2.2 then 0x01 else 0x00]) s →
    exec (.postSamples .radio) s =
      .next (withReply .radio 0x00
        [byte (samples.countP fun x => decide (8 ≤ x.1.toNat ∧ x.1.toNat < 16)),
          byte (samples.length - samples.countP fun x => decide (8 ≤ x.1.toNat ∧ x.1.toNat < 16))]
        (samples.foldl (fun s x =>
          if h : 8 ≤ x.1.toNat ∧ x.1.toNat < 16 then takeSample ⟨x.1.toNat, h.2⟩ x.2.1.toNat x.2.2 s else s) s))) ∧
  ∀ (h : HandsetNo) (throttle : Nat) (pressed : Bool) (s : State),
    let r := s.handsets[h]
    let step := deriveStep r.calibration throttle
    let told : State := if r.presence = .active then s else raise (.handsetActive h r.pairing.car throttle) s
    let after : Handset → State := fun x => { told with handsets := s.handsets.set h x }
    let taken : Handset := { r with
      presence := .active, lastSample := s.clock, holdEnd := some (s.clock + 2500),
      lostTime := some (s.clock + 5000), step := step, holdTimer := if 0 < step then none else r.holdTimer }
    (r.button = pressed → takeSample h throttle pressed s = after taken) ∧
    (r.button = true → pressed = false →
      takeSample h throttle pressed s = after { taken with button := false, holdTimer := none }) ∧
    (r.button = false → pressed = true →
      let down : Handset := { taken with
        button := true, holdTimer := if step = 0 then some s.clock else taken.holdTimer }
      (∀ c, r.pairing = .bound c → takeSample h throttle pressed s = armRequest h c (after down)) ∧
      (r.pairing.car = none → takeSample h throttle pressed s = after down)) ∧
    (s.resetHeld = false →
      (∀ t, r.holdEnd = some t → reached s.clock t = true → exec (.holdEnd h) s = .next { s with
        handsets := s.handsets.set h { r with holdEnd := none, step := 0, button := false, holdTimer := none } }) ∧
      (∀ t, r.lostTime = some t → reached s.clock t = true → exec (.lostTime h) s =
        .next (raise (.handsetLost h r.pairing.car r.lastSample) { s with
          handsets := s.handsets.set h { r with lostTime := none, presence := .lost } })) ∧
      (r.holdEnd.all (fun t => !reached s.clock t) = true → exec (.holdEnd h) s = .next s) ∧
      (r.lostTime.all (fun t => !reached s.clock t) = true → exec (.lostTime h) s = .next s))

/-- The console's handset settings: WRITE CALIBRATION stores what R52 accepts and leaves the step; SET SCAN
restarts the scanner and sets every wired handset outside the set ABSENT, with HS_ABSENT for those that were
ACTIVE; READ RAW answers the latch and clears FRESH; and their refusals (R43, R45, R46, R52, R60). That SET SCAN
takes the handsets in ascending number is the model's choice (log entry 32). -/
def Obligations.HandsetSettings : Prop :=
  ∀ s : State,
    (∀ (n : Nat) (k : Calibration), n ≤ 255 → k.zero ≤ 65535 → k.full ≤ 65535 → k.deadband ≤ 65535 →
      FrameEnded .console 0x40 (byte n :: k.bytes) s →
      (s.store ≠ .idle → exec (.writeCalibration .console) s = .next (withReply .console 0x16 [] s)) ∧
      (s.store = .idle →
        (16 ≤ n → exec (.writeCalibration .console) s = .next (withReply .console 0x14 [] s)) ∧
        (∀ h : n < 16,
          let top := if n < 8 then 4095 else 255
          (k.zero ≤ top → k.full ≤ top → k.deadband ≤ top → top / 16 ≤ ((k.full : Int) - k.zero).natAbs →
            k.deadband ≤ top / 8 → exec (.writeCalibration .console) s = .next (withReply .console 0x00 []
              { s with handsets := s.handsets.set n { s.handsets[n] with calibration := k } })) ∧
          (top < k.zero ∨ top < k.full ∨ top < k.deadband ∨ ((k.full : Int) - k.zero).natAbs < top / 16 ∨
              top / 8 < k.deadband →
            exec (.writeCalibration .console) s = .next (withReply .console 0x14 [] s))))) ∧
    (∀ a b : Byte, FrameEnded .console 0x41 [a, b] s →
      (s.store ≠ .idle → exec (.setScan .console) s = .next (withReply .console 0x16 [] s)) ∧
      (s.store = .idle →
        (2 < a.toNat ∨ 3 < b.toNat → exec (.setScan .console) s = .next (withReply .console 0x14 [] s)) ∧
        (a.toNat ≤ 2 → b.toNat ≤ 3 →
          let gone : Handset → Handset := fun r => { r with
            presence := .absent, presenceCount := 0, step := 0, button := false, prevSample := none,
            holdTimer := none }
          let leave : State → HandsetNo → State := fun x h =>
            let y : State := { x with handsets := x.handsets.set h (gone x.handsets[h]) }
            if x.handsets[h].presence = .active
              then raise (.handsetAbsent h x.handsets[h].pairing.car .scanSet) y
              else y
          let outside : List HandsetNo :=
            (List.finRange 16).filter fun h => decide (h.val < 8 ∧ 2 ^ (a.toNat + 1) ≤ h.val)
          let t := outside.foldl leave { s with scanner := { s.scanner with
            setCode := a.toNat, intervalCode := b.toNat, round := []
            nextRound := s.clock + BitVec.ofNat 32 (10 * 2 ^ b.toNat) } }
          exec (.setScan .console) s = .next (withReply .console 0x00 [] t) ∧
          (∀ h : HandsetNo, h ∈ outside → t.handsets[h] = gone s.handsets[h]) ∧
          (∀ h : HandsetNo, h ∉ outside → t.handsets[h] = s.handsets[h]) ∧
          t = { s with scanner := t.scanner, handsets := t.handsets, events := t.events }))) ∧
    (∀ n : Nat, n ≤ 255 → FrameEnded .console 0x42 [byte n] s →
      (∀ h : n < 8, exec (.readRaw .console) s = .next (withReply .console 0x00
        [byte s.scanner.latches[n].raw.toNat, byte (s.scanner.latches[n].raw.toNat / 256),
          flagByte .fresh s.scanner.latches[n].fresh]
        { s with scanner := { s.scanner with
          latches := s.scanner.latches.set n { s.scanner.latches[n] with fresh := false } } })) ∧
      (8 ≤ n → exec (.readRaw .console) s = .next (withReply .console 0x14 [] s)))

/-! ### Pairing (Chapter 4) -/

/-- A hold timer's expiry stops it and asks PRU for a seek, refused by the first test of R65 that applies or
taken by R66; a seek timer's expiry ends the seek (R56, R64, R67). The model's choices: neither acts before its
time, nor for a handset that is not queued (log entry 3), and what reached means (log entry 30). -/
def Obligations.SeekRequests : Prop :=
  ∀ (h : HandsetNo) (s : State), s.resetHeld = false →
    let r := s.handsets[h]
    let stopped : Handset := { r with holdTimer := none }
    let only : Handset → State := fun x => { s with handsets := s.handsets.set h x }
    let joined : State := { only { stopped with pairing := .seeking } with
      seeks := s.seeks ++ [{ handset := h, joined := s.clock }] }
    (r.holdTimer.all (fun t => !reached s.clock (t + 20000)) = true →
      exec (.holdTimerExpiry h) s = .next s) ∧
    (∀ t, r.holdTimer = some t → reached s.clock (t + 20000) = true →
      (r.pairing = .seeking → exec (.holdTimerExpiry h) s =
        .next (raise (.seekRefused h none .alreadySeeking) (only stopped))) ∧
      (r.pairing ≠ .seeking → 4 ≤ s.seeks.length → exec (.holdTimerExpiry h) s =
        .next (raise (.seekRefused h r.pairing.car .queueFull) (only stopped))) ∧
      (r.pairing = .idle → s.seeks.length < 4 → exec (.holdTimerExpiry h) s =
        .next (raise (.seekStart h (s.seeks.length + 1)) joined)) ∧
      ∀ c, r.pairing = .bound c → s.seeks.length < 4 →
        (s.store ≠ .idle → exec (.holdTimerExpiry h) s =
          .next (raise (.seekRefused h (some c) .storeBusy) (only stopped))) ∧
        (s.store = .idle → exec (.holdTimerExpiry h) s =
          .next (raise (.seekStart h (s.seeks.length + 1)) (raise (.unbound h (some c) .reseek)
            { joined with cars := s.cars.set c { s.cars[c] with binding := none, intent := none } })))) ∧
    (h ∉ s.seeks.map Seek.handset → exec (.seekTimerExpiry h) s = .next s) ∧
    ∀ (e : Seek) (before after : List Seek), s.seeks = before ++ e :: after → e.handset = h →
      h ∉ (before ++ after).map Seek.handset →
      (reached s.clock (e.joined + 200000) = false → exec (.seekTimerExpiry h) s = .next s) ∧
      (reached s.clock (e.joined + 200000) = true → exec (.seekTimerExpiry h) s =
        .next (raise (.seekTimeout h e.joined) { s with
          seeks := before ++ after
          handsets := s.handsets.set h { r with pairing := .idle } }))

/-- BIND and UNBIND by their tests and tables (R74, R75), and the gate's binding of a car to the head of the
queue (R71, R72). -/
def Obligations.BindAndUnbind : Prop :=
  ∀ s : State,
    (∀ n k : Nat, n ≤ 255 → k ≤ 255 → FrameEnded .console 0x50 [byte n, byte k] s →
      (16 ≤ n ∨ 12 ≤ k → exec (.bind .console) s = .next (withReply .console 0x14 [] s)) ∧
      ∀ (hn : n < 16) (hk : k < 12),
        (s.store ≠ .idle → exec (.bind .console) s = .next (withReply .console 0x16 [] s)) ∧
        (s.store = .idle →
          (s.handsets[n].pairing.car ≠ none ∨ s.cars[k].binding ≠ none → exec (.bind .console) s =
            .next (withReply .console 0x15
              [byteOrNone (s.handsets[n].pairing.car.map Fin.val), byteOrNone (s.cars[k].binding.map Fin.val)]
              s)) ∧
          (s.handsets[n].pairing.car = none → s.cars[k].binding = none →
            (s.cars[k].profile.enabled = false →
              exec (.bind .console) s = .next (withReply .console 0x14 [] s)) ∧
            (s.cars[k].profile.enabled = true → exec (.bind .console) s = .next (withReply .console 0x00 []
              (raise (.bound ⟨n, hn⟩ ⟨k, hk⟩ .console) { s with
                seeks := s.seeks.filter fun e => e.handset.val != n
                handsets := s.handsets.set n { s.handsets[n] with pairing := .bound ⟨k, hk⟩ }
                cars := s.cars.set k { s.cars[k] with binding := some ⟨n, hn⟩ } })))))) ∧
    (∀ n : Nat, n ≤ 255 → FrameEnded .console 0x51 [byte n] s →
      (16 ≤ n → exec (.unbind .console) s = .next (withReply .console 0x14 [] s)) ∧
      ∀ hn : n < 16,
        (s.store ≠ .idle → exec (.unbind .console) s = .next (withReply .console 0x16 [] s)) ∧
        (s.store = .idle →
          (s.handsets[n].pairing = .idle → exec (.unbind .console) s = .next (withReply .console 0x01 [] s)) ∧
          (s.handsets[n].pairing = .seeking → exec (.unbind .console) s = .next (withReply .console 0x00 []
            (raise (.unbound ⟨n, hn⟩ none .console) { s with
              seeks := s.seeks.filter fun e => e.handset.val != n
              handsets := s.handsets.set n { s.handsets[n] with pairing := .idle } }))) ∧
          ∀ c, s.handsets[n].pairing = .bound c → exec (.unbind .console) s = .next (withReply .console 0x00 []
            (raise (.unbound ⟨n, hn⟩ (some c) .console) { s with
              handsets := s.handsets.set n { s.handsets[n] with pairing := .idle }
              cars := s.cars.set c { s.cars[c] with binding := none, intent := none } })))) ∧
    ∀ c : CarNo,
      (s.seeks = [] ∨ s.cars[c].binding ≠ none ∨ s.store ≠ .idle → pairingGateDetection c s = s) ∧
      ∀ e rest, s.seeks = e :: rest → s.cars[c].binding = none → s.store = .idle →
        pairingGateDetection c s = raise (.bound e.handset c .gate) { s with
          seeks := (e :: rest).filter fun x => x.handset != e.handset
          handsets := s.handsets.set e.handset { s.handsets[e.handset] with pairing := .bound c }
          cars := s.cars.set c { s.cars[c] with binding := some e.handset } }

/-- Every step keeps each car and handset bound to each other or to none, bound cars enabled, and the queue
exactly the SEEKING handsets, at most four (R62, R63). -/
def Obligations.PairingLawKept : Prop := KeptByEveryStep PairingLaw

/-! ### Lane-change settlement (Chapter 5) -/

/-- The windows of a settlement: the requester's at no less than 50 mm/s; a reservation's from its absolute
times, for every list of the group; a traffic car's by its placement; narrowing by R88's three cases; and when
two windows are clear of each other (R88 to R95). -/
def Obligations.WindowsComputed : Prop :=
  (∀ x : Int, (x < 0 → narrow x = 0) ∧ (0 ≤ x → x ≤ 65535 → (narrow x : Int) = x) ∧
    (65535 < x → narrow x = 65535)) ∧
  (∀ (k : CarNo) (j : SwitchNo) (s : State),
    let v := max s.cars[k].speed 50
    let d : Int := (s.map.segment (s.map.switch j).home).length - (s.map.switch j).entryOffset
    let w := requesterWindow s j k
    let out : Int := (d + (s.map.switch j).zoneLength + s.cars[k].profile.length) * 10000
    w.car = k ∧ w.entry * v ≤ d * 10000 ∧ d * 10000 < (w.entry + 1) * v ∧ (w.exit - 1) * v < out ∧
    out ≤ w.exit * v ∧ narrow w.entry ≤ narrow w.exit ∧ narrow w.exit ≤ 65535) ∧
  (∀ (j : SwitchNo) (tRef : Time) (s : State) (w : Window), w ∈ reservationWindows s j tRef ↔
    ∃ (i : SwitchNo) (e : Reservation), e ∈ s.lists[i] ∧
      (i = j ∨ ((s.map.switch j).group ≠ none ∧ (s.map.switch i).used = true ∧
        (s.map.switch i).group = (s.map.switch j).group)) ∧
      w = { car := e.car, entry := (e.entryAt - tRef).toInt, exit := (e.exitAt - tRef).toInt }) ∧
  (∀ (j : SwitchNo) (k : CarNo) (tRef : Time) (s : State) (w : Window), w ∈ trafficWindows s j k tRef ↔
    ∃ m : CarNo, m ≠ k ∧ s.cars[m].profile.enabled = true ∧ s.cars[m].fix ≠ none ∧
      (∀ e ∈ testedEntries s j, e.car ≠ m) ∧ trafficWindow s j tRef m = some w) ∧
  (∀ (j : SwitchNo) (m : CarNo) (tRef : Time) (s : State) (f : Fix), s.cars[m].fix = some f →
    let v := s.cars[m].speed
    let zone : Int := (s.map.switch j).zoneLength + s.cars[m].profile.length
    let since := if 50000 < (tRef - f.time).toNat then 0 else (tRef - f.time).toNat
    let fresh := s.cars[m].stale = false ∧ (s.clock - f.time).toNat ≤ 50000
    (s.map.walkFrom f.sensor (s.map.switch j).thrown = none → trafficWindow s j tRef m = none) ∧
    ∀ d, s.map.walkFrom f.sensor (s.map.switch j).thrown = some d →
      (fresh → 50 ≤ v →
        let rem : Int := d - (since * v / 10000 : Nat)
        (rem + zone ≤ 0 → trafficWindow s j tRef m = none) ∧
        (0 < rem + zone → ∃ w, trafficWindow s j tRef m = some w ∧ w.car = m ∧
          w.entry * v ≤ max rem 0 * 10000 ∧ max rem 0 * 10000 < (w.entry + 1) * v ∧
          (w.exit - 1) * v < (rem + zone) * 10000 ∧ (rem + zone) * 10000 ≤ w.exit * v ∧
          narrow w.entry ≤ narrow w.exit ∧ narrow w.exit ≤ 65535)) ∧
      (¬fresh ∨ v < 50 →
        (d ≤ 0 → 0 < d + zone → trafficWindow s j tRef m = some { car := m, entry := 0, exit := 65535 }) ∧
        (0 < d ∨ d + zone ≤ 0 → trafficWindow s j tRef m = none))) ∧
  ∀ (g : Nat) (a b : Window), conflicts g a b = false ↔
    narrow b.exit + g ≤ narrow a.entry ∨ narrow a.exit + g ≤ narrow b.entry

/-- The verdict is decided by the five tests of R85 in their order, on the state that superseding leaves, but
for the switch's own state, which tests 1 and 2 read as SWC held it when the settlement was taken; the record
carries the requester's window whatever the verdict, and the conflicts, the first conflicting car and the flags
of R96 and R97. -/
def Obligations.VerdictByTestsInOrder : Prop :=
  ∀ (k : CarNo) (j : SwitchNo) (tRef : Time) (s : State),
    let u := supersede k s
    let a := requesterWindow u j k
    let closed := s.switches[j].state = .fault ∨ s.switches[j].state = .locked
    let late := s.switches[j].state ≠ .thrown ∧ narrow a.entry < (u.map.switch j).actuation
    let reserved := reservationWindows u j tRef
    let traffic := trafficWindows u j k tRef
    let meets : Window → Prop := fun w => conflicts u.limits.guardTime a w = true
    ∃ v : VerdictRecord, (settle k j tRef s).verdicts[j] = some v ∧
      v.car = k ∧ v.switch = j ∧ v.refTime = tRef ∧ v.entry = narrow a.entry ∧ v.exit = narrow a.exit ∧
      (closed → v.verdict = .denySwitch) ∧
      (¬closed → late → v.verdict = .denyLate) ∧
      (¬closed → ¬late →
        ((∃ w ∈ reserved, meets w) → v.verdict = .denyReserved) ∧
        ((∀ w ∈ reserved, ¬meets w) →
          ((∃ w ∈ traffic, meets w) → v.verdict = .denyTraffic) ∧
          ((∀ w ∈ traffic, ¬meets w) →
            (4 ≤ u.lists[j].length → v.verdict = .denyFull) ∧
            (u.lists[j].length < 4 → v.verdict = .grant)))) ∧
      (closed ∨ late → v.conflicts = 0 ∧ v.firstConflict = none ∧ v.flagU = false ∧
        (v.flagS = true ↔ 65535 < a.entry ∨ 65535 < a.exit)) ∧
      (¬closed → ¬late →
        (∀ c : CarNo, v.conflicts.getLsbD c.val = true ↔ ∃ w ∈ reserved ++ traffic, meets w ∧ w.car = c) ∧
        (v.firstConflict = none ↔ ∀ w ∈ reserved ++ traffic, ¬meets w) ∧
        (∀ c, v.firstConflict = some c → ∃ w ∈ reserved ++ traffic, meets w ∧ w.car = c ∧
          ∀ x ∈ reserved ++ traffic, meets x →
            narrow w.entry < narrow x.entry ∨ (narrow w.entry = narrow x.entry ∧ c ≤ x.car)) ∧
        (v.flagS = true ↔ ∃ w ∈ a :: (reserved ++ traffic), 65535 < w.entry ∨ 65535 < w.exit) ∧
        (v.flagU = true ↔ ∃ m : CarNo, isConsidered u j k m = true ∧ u.cars[m].fixStale u.clock = true)) ∧
      (v.flagG = true ↔ v.verdict = .grant) ∧ (v.flagL = true ↔ v.verdict = .denyLate) ∧
      (v.flagC = true ↔ v.verdict = .denyReserved ∨ v.verdict = .denyTraffic)

/-- What a settlement hands on, in order: superseding and its return requests, the last-verdict record and
VERDICT, the saturation report when S is set, and on GRANT the entry, placed by its time, and a throw request
(R83, R84, R98 to R100, R197). The model's choice: no arrival comes between the settlement and its throw request
(log entry 35), and SWC answers superseding's return request before VERDICT is raised (log entry 38).
`VerdictByTestsInOrder` says what the record holds and `ReservationsEnd` what superseding does. -/
def Obligations.SettlementResults : Prop :=
  ∀ (k : CarNo) (j : SwitchNo) (tRef : Time) (s : State),
    let u := supersede k s
    ∃ v : VerdictRecord, (settle k j tRef s).verdicts[j] = some v ∧ v.car = k ∧ v.switch = j ∧ v.refTime = tRef ∧
      let told := raise (.verdict v) { u with verdicts := u.verdicts.set j (some v) }
      let flagged : State := { told with events := told.events.map fun q => { q with flags :=
        { q.flags with satSeen := true } } }
      let reported : State :=
        if v.flagS then (if s.limits.satEvents then raise (.sat k j v.verdict) flagged else flagged) else told
      (v.verdict ≠ .grant → settle k j tRef s = reported) ∧
      (v.verdict = .grant → ∃ before after : List Reservation, u.lists[j] = before ++ after ∧
        (∀ e ∈ before, (e.entryAt - tRef).toInt ≤ v.entry) ∧
        (∀ e, after.head? = some e → (v.entry : Int) < (e.entryAt - tRef).toInt) ∧
        settle k j tRef s = throwRequest j { reported with
          lists := u.lists.set j (before ++ { car := k, entryAt := tRef + BitVec.ofNat 32 v.entry
                                              exitAt := tRef + BitVec.ofNat 32 v.exit
                                              grantedAt := tRef
                                              staleAt := tRef + BitVec.ofNat 32 v.exit + 20000 } :: after) })

/-- Every step keeps each reservation list within 4 entries and each car within one entry across all 24
lists (R99). -/
def Obligations.ReservationLawKept : Prop := KeptByEveryStep ReservationLaw

/-- How reservations end: at the stale time, by superseding, switch by switch with REVOKED, and by a passage of
either exit, with the return request for a list left empty (R84, R101 to R103, R120). The
model's choices: a stale time before its time, or of no entry, does nothing (log entry 3; reached: log entry 30);
and SWC answers each return request at once (log entry 38). -/
def Obligations.ReservationsEnd : Prop :=
  (∀ (j : SwitchNo) (c : CarNo) (s : State), s.resetHeld = false →
    ((∀ e ∈ s.lists[j], e.car ≠ c) → exec (.staleExpiry j c) s = .next s) ∧
    ∀ (e : Reservation) (before after : List Reservation), s.lists[j] = before ++ e :: after → e.car = c →
      (∀ x ∈ before ++ after, x.car ≠ c) →
      (reached s.clock e.staleAt = false → exec (.staleExpiry j c) s = .next s) ∧
      (reached s.clock e.staleAt = true →
        let u := raise (.staleRes c j e.exitAt) { s with lists := s.lists.set j (before ++ after) }
        exec (.staleExpiry j c) s = .next (if before ++ after = [] then returnRequest j u else u))) ∧
  (∀ (k : CarNo) (s : State),
    let t := supersede k s
    let left : List Reservation → List Reservation := fun l => l.filter fun e => e.car != k
    let emptied : SwitchNo → Bool := fun j =>
      !s.lists[j].isEmpty && (left s.lists[j]).isEmpty &&
        (s.switches[j].state == .thrown || s.switches[j].state == .throwing)
    t = (List.finRange 24).foldl (fun x j =>
      if x.lists[j].any (fun e => e.car == k) then
        let y := raise (.revoked k j .superseded) { x with lists := x.lists.set j (left x.lists[j]) }
        if left x.lists[j] = [] then returnRequest j y else y
      else x) s ∧
    (∀ j : SwitchNo, t.lists[j] = left s.lists[j]) ∧
    (∀ j : SwitchNo, emptied j = true → t.switches[j] = { s.switches[j] with
      state := .returning, commanded := .straight
      deadline := some (s.clock + BitVec.ofNat 32 ((s.map.switch j).actuation + 200)) }) ∧
    (∀ j : SwitchNo, emptied j = false → t.switches[j] = s.switches[j]) ∧
    t = { s with lists := t.lists, switches := t.switches, events := t.events, loop := { s.loop with
      urgent := s.loop.urgent ++ (List.finRange 24).filter fun j => emptied j && decide (j ∉ s.loop.urgent) } }) ∧
  ∀ (k : CarNo) (j : SwitchNo) (s : State),
    let more := fun n : Nat => if n < 65535 then n + 1 else n
    let straight : SwitchRun :=
      { s.switches[j] with straightPassages := more s.switches[j].straightPassages }
    let thrown : SwitchRun := { s.switches[j] with thrownPassages := more s.switches[j].thrownPassages }
    let left := s.lists[j].filter fun e => e.car != k
    let n := if s.cars[k].misroutes < 255 then s.cars[k].misroutes + 1 else s.cars[k].misroutes
    ((∀ e ∈ s.lists[j], e.car ≠ k) →
      passage k j false s = { s with switches := s.switches.set j straight } ∧
      passage k j true s =
        raise (.carried k j s.switches[j].state) { s with switches := s.switches.set j thrown }) ∧
    ((∃ e ∈ s.lists[j], e.car = k) →
      (let u : State := { s with switches := s.switches.set j thrown, lists := s.lists.set j left }
       passage k j true s = if left = [] then returnRequest j u else u) ∧
      (let u := raise (.misroute k j n) { s with
         switches := s.switches.set j straight, lists := s.lists.set j left
         cars := s.cars.set k { s.cars[k] with misroutes := n } }
       passage k j false s = if left = [] then returnRequest j u else u))

/-! ### Switches (Chapter 6) -/

/-- A throw request and a return request by the switch's state: the command with its deadline and its place on
the urgent list, the new state, the throw count and SW_STATE; in the other states, nothing (R112 to R114). -/
def Obligations.ThrowAndReturnRequests : Prop :=
  ∀ (j : SwitchNo) (s : State),
    let r := s.switches[j]
    let deadline := some (s.clock + BitVec.ofNat 32 ((s.map.switch j).actuation + 200))
    let loop : Loop :=
      { s.loop with urgent := if j ∈ s.loop.urgent then s.loop.urgent else s.loop.urgent ++ [j] }
    (r.state = .straight ∨ r.state = .returning → throwRequest j s =
      raise (.switchState j r.state .throwing .throwOrder r.confirmed) { s with
        loop := loop
        switches := s.switches.set j { r with
          state := .throwing, commanded := .thrown, deadline := deadline
          throwCount := if r.throwCount < 65535 then r.throwCount + 1 else r.throwCount } }) ∧
    (r.state ≠ .straight → r.state ≠ .returning → throwRequest j s = s) ∧
    (r.state = .thrown ∨ r.state = .throwing → returnRequest j s =
      raise (.switchState j r.state .returning .returnOrder r.confirmed) { s with
        loop := loop
        switches := s.switches.set j { r with
          state := .returning, commanded := .straight, deadline := deadline } }) ∧
    (r.state ≠ .thrown → r.state ≠ .throwing → returnRequest j s = s)

/-- A position report sets the confirmed position and then acts by the eighteen rows of R116's table
(R115). -/
def Obligations.PositionReports : Prop :=
  ∀ (j : SwitchNo) (x : ReportedPosition) (s : State), x ≠ .invalid →
    let r := s.switches[j]
    let confirmed : Confirmed := match x with
      | .straight => .straight
      | .thrown => .thrown
      | .moving | .invalid => .unknown
    let seen : SwitchRun := { r with confirmed := confirmed }
    let only : SwitchRun → State := fun y => { s with switches := s.switches.set j y }
    let commanded : SwitchRun → State := fun y => { only y with
      loop := { s.loop with urgent := if j ∈ s.loop.urgent then s.loop.urgent else s.loop.urgent ++ [j] } }
    let deadline := some (s.clock + BitVec.ofNat 32 ((s.map.switch j).actuation + 200))
    let done := positionReport j x s
    (r.state = .straight → x = .straight → done = only seen) ∧
    (r.state = .straight → x ≠ .straight → done =
      raise (.switchState j .straight .returning .slip confirmed)
        (commanded { seen with state := .returning, commanded := .straight, deadline := deadline })) ∧
    (r.state = .throwing → x = .thrown → done =
      raise (.switchState j .throwing .thrown .confirm confirmed)
        (only { seen with state := .thrown, deadline := none })) ∧
    (r.state = .throwing → x ≠ .thrown → done = only seen) ∧
    (r.state = .thrown → x = .thrown → done = only seen) ∧
    (r.state = .thrown → x ≠ .thrown → done =
      raise (.switchState j .thrown .throwing .slip confirmed)
        (commanded { seen with
          state := .throwing, commanded := .thrown, deadline := deadline
          throwCount := if r.throwCount < 65535 then r.throwCount + 1 else r.throwCount })) ∧
    (r.state = .returning → x = .straight → done =
      raise (.switchState j .returning .straight .confirm confirmed)
        (only { seen with state := .straight, deadline := none })) ∧
    (r.state = .returning → x ≠ .straight → done = only seen) ∧
    (r.state = .locked → x = .straight → done = only { seen with deadline := none }) ∧
    (r.state = .locked → x ≠ .straight → r.deadline = none → done =
      commanded { seen with commanded := .straight, deadline := deadline }) ∧
    (r.state = .locked → x ≠ .straight → r.deadline ≠ none → done = only seen) ∧
    (r.state = .fault → done = only seen)

/-- Entering FAULT sets the record, takes the switch off the urgent list, raises SW_STATE with its cause and
revokes the list with cause FAULT; a deadline's expiry does so (R104, R117, R118). LOCK, UNLOCK and CLEAR SWITCH
act by the switch's state, with SW_STATE and, for LOCK, the list revoked with cause LOCK (R122 to R124), and are
refused for a number above 23 and for an unused switch (R121). `HaltClearsTheField` says what a revocation of one
list does. That a deadline before its time does nothing is the model's choice (log entry 3; reached: log
entry 30). -/
def Obligations.FaultsAndLocks : Prop :=
  ∀ (j : SwitchNo) (s : State),
    let r := s.switches[j]
    let deadline := some (s.clock + BitVec.ofNat 32 ((s.map.switch j).actuation + 200))
    let joined : Loop :=
      { s.loop with urgent := if j ∈ s.loop.urgent then s.loop.urgent else s.loop.urgent ++ [j] }
    let commanded : SwitchRun → State := fun y => { s with switches := s.switches.set j y, loop := joined }
    (∀ cause : SwitchCause,
      (r.state = .fault → enterFault j cause s = s) ∧
      (r.state ≠ .fault →
        let faulted : State := { s with
          switches := s.switches.set j { r with
            state := .fault, commanded := .straight, deadline := none
            faultCount := if r.faultCount < 255 then r.faultCount + 1 else r.faultCount }
          loop := { s.loop with urgent := s.loop.urgent.filter (· != j) } }
        let u := enterFault j cause s
        u = revokeList .fault j (raise (.switchState j r.state .fault cause r.confirmed) faulted) ∧
        u.lists = s.lists.set j [] ∧ u = { faulted with lists := u.lists, events := u.events })) ∧
    (s.resetHeld = false →
      (r.deadline.all (fun t => !reached s.clock t) = true → exec (.deadlineExpiry j) s = .next s) ∧
      (∀ t, r.deadline = some t → reached s.clock t = true →
        exec (.deadlineExpiry j) s = .next (enterFault j .deadline s))) ∧
    (∀ x ∈ [Request.lockSwitch, .unlockSwitch, .clearSwitch], ∀ n : Nat, n ≤ 255 →
      FrameEnded .console x.code [byte n] s →
      (24 ≤ n → exec (x.instr .console) s = .next (withReply .console 0x14 [] s)) ∧
      (n = j.val → (s.map.switch j).used = false →
        exec (x.instr .console) s = .next (withReply .console 0x13 [] s))) ∧
    ((s.map.switch j).used = true →
      (FrameEnded .console 0x60 [byte j.val] s →
        (r.state = .locked ∨ r.state = .fault →
          exec (.lockSwitch .console) s = .next (withReply .console 0x01 [] s)) ∧
        (r.state ≠ .locked → r.state ≠ .fault →
          let locked : State := if r.state = .straight
            then { s with switches := s.switches.set j { r with state := .locked } }
            else commanded { r with state := .locked, commanded := .straight, deadline := deadline }
          let u := revokeList .lock j (raise (.switchState j r.state .locked .lock r.confirmed) locked)
          exec (.lockSwitch .console) s = .next (withReply .console 0x00 [] u) ∧
          u.lists = s.lists.set j [] ∧ u = { locked with lists := u.lists, events := u.events })) ∧
      (FrameEnded .console 0x61 [byte j.val] s →
        (r.state ≠ .locked → exec (.unlockSwitch .console) s = .next (withReply .console 0x01 [] s)) ∧
        (r.state = .locked → r.confirmed = .straight → r.deadline = none →
          exec (.unlockSwitch .console) s = .next (withReply .console 0x00 []
            (raise (.switchState j .locked .straight .unlock r.confirmed)
              { s with switches := s.switches.set j { r with state := .straight } }))) ∧
        (r.state = .locked → ¬(r.confirmed = .straight ∧ r.deadline = none) →
          exec (.unlockSwitch .console) s = .next (withReply .console 0x00 []
            (raise (.switchState j .locked .returning .unlock r.confirmed)
              { s with switches := s.switches.set j { r with state := .returning } })))) ∧
      (FrameEnded .console 0x62 [byte j.val] s →
        (r.state ≠ .fault → exec (.clearSwitch .console) s = .next (withReply .console 0x01 [] s)) ∧
        (r.state = .fault → s.loop.nodes[switchNode j].state = .fault →
          exec (.clearSwitch .console) s = .next (withReply .console 0x13 [] s)) ∧
        (r.state = .fault → s.loop.nodes[switchNode j].state ≠ .fault →
          exec (.clearSwitch .console) s = .next (withReply .console 0x00 []
            (raise (.switchState j .fault .returning .clear r.confirmed)
              (commanded { r with state := .returning, commanded := .straight, deadline := deadline }))))))

/-! ### The sensor loop (Chapter 7) -/

/-- A node's record moves by the eight rows of R137's table at the end of each exchange, with NODE_FAULT, the
fault of its switch and NODE_OK (R119, R137, R138). That NODE_OK of a node that has no last miss sends time 0 is
the model's choice (log entry 25). -/
def Obligations.NodeStanding : Prop :=
  ∀ (a : NodeNo) (s : State),
    let r := s.loop.nodes[a]
    let more := fun n : Nat => if n < 65535 then n + 1 else n
    let next := fun n : Nat => if n < 255 then n + 1 else n
    let record : NodeRecord → State := fun x => { s with loop := { s.loop with nodes := s.loop.nodes.set a x } }
    let answered : NodeRecord := { r with
      exchanges := more r.exchanges, lastAnswer := some s.clock, missCount := 0 }
    let missed : NodeRecord := { r with
      exchanges := more r.exchanges, misses := more r.misses, lastMiss := some s.clock, goodCount := 0 }
    (r.state = .ok → takeAnswer a s = record { answered with goodCount := next r.goodCount }) ∧
    (r.state = .ok → takeMiss a s = record { missed with missCount := 1, state := .missing }) ∧
    (r.state = .missing → takeAnswer a s = record { answered with goodCount := 1, state := .ok }) ∧
    (r.state = .missing → r.missCount < 2 → takeMiss a s = record { missed with missCount := r.missCount + 1 }) ∧
    (r.state = .missing → 2 ≤ r.missCount →
      let faulted := raise (.nodeFault a (more r.exchanges) (more r.misses))
        (record { missed with missCount := 3, state := .fault })
      (nodeSwitch a = none → takeMiss a s = faulted) ∧
      (∀ j : SwitchNo, a = switchNode j → takeMiss a s = enterFault j .nodeFault faulted)) ∧
    (r.state = .fault → r.goodCount < 3 → takeAnswer a s = record { answered with goodCount := r.goodCount + 1 }) ∧
    (r.state = .fault → 3 ≤ r.goodCount → takeAnswer a s =
      raise (.nodeOk a (r.lastMiss.getD 0)) (record { answered with goodCount := 4, state := .ok })) ∧
    (r.state = .fault → takeMiss a s = record { missed with missCount := next r.missCount })

/-- How an exchange goes on: the poll sent starts the reply timer; the timer's expiry, a malformed reply and a
sound one end it, the outcome taken in R139's order or, for a node that has left the polled set, discarded;
and then the arbiter chooses (R133, R134, R136, R139, R143 to R145). The model's choices: a command with no
exchange or timer that calls for it, and a timer's expiry before its time, do nothing (log entry 3; reached: log
entry 30); a reply at the timer's edge comes too late (log entry 13); a discarded exchange moves nothing on the
urgent list (log entries 20 and 28); an address that left and joined again, in flight or while its outcome is
taken, moves to the tail (log entry 33). -/
def Obligations.ExchangesEnd : Prop :=
  ∀ s : State, s.resetHeld = false →
    (s.loop.exchange = none → exec .pollSent s = .next s ∧ exec .replyTimeout s = .next s ∧
      ∀ r, exec (.replyReceived r) s = .next s) ∧
    ∀ x, s.loop.exchange = some x →
      (x.replyBy = none → exec .pollSent s = .next { s with loop := { s.loop with
        exchange := some { x with replyBy := some (s.clock + 2) } } } ∧ exec .replyTimeout s = .next s ∧
        ∀ r, exec (.replyReceived r) s = .next s) ∧
      ∀ t, x.replyBy = some t →
        let finish : State → State := fun u =>
          arbitrate (if x.urgent = true then
            match nodeSwitch x.node with
            | some j => if j ∈ u.loop.urgent then { u with loop := { u.loop with
                urgent := u.loop.urgent.filter (· != j) ++ [j] } } else u
            | none => u
            else u)
        exec .pollSent s = .next s ∧
        (reached s.clock t = false → exec .replyTimeout s = .next s) ∧
        (reached s.clock t = true → ∀ r, exec (.replyReceived r) s = .next s) ∧
        (x.discard = true →
          (reached s.clock t = true → exec .replyTimeout s = .next (arbitrate s)) ∧
          (reached s.clock t = false → ∀ r, exec (.replyReceived r) s = .next (arbitrate s))) ∧
        (x.discard = false →
          (reached s.clock t = true → exec .replyTimeout s = .next (finish (takeMiss x.node s))) ∧
          (reached s.clock t = false → ∀ r : NodeReply,
            let sound := r.sound = true ∧ r.address = x.node.val ∧ r.detections.length ≤ 2 ∧
              (∀ d ∈ r.detections, d.kind = .gate ↔ 24 ≤ x.node.val) ∧
              (x.node.val < 24 → r.position ≠ none ∧ r.position ≠ some .invalid) ∧
              (24 ≤ x.node.val → r.position = none)
            let drop : State → State := fun u =>
              if r.dropped then raise (.nodeDropped x.node r.detections.length) u else u
            let records : State → State := fun u => drop (match r.detections with
              | [d, e] => if min d.age 1000 < min e.age 1000
                  then takeRecord x.node (takeRecord x.node u e) d
                  else takeRecord x.node (takeRecord x.node u d) e
              | [d] => takeRecord x.node u d
              | _ => u)
            (¬sound → exec (.replyReceived r) s = .next (finish (takeMiss x.node s))) ∧
            (sound → 24 ≤ x.node.val →
              exec (.replyReceived r) s = .next (finish (records (takeAnswer x.node s)))) ∧
            (sound → ∀ (j : SwitchNo) (p : ReportedPosition), x.node = switchNode j → r.position = some p →
              let u := positionReport j p (takeAnswer x.node s)
              let equal := (p = .straight ∧ u.switches[j].commanded = .straight) ∨
                (p = .thrown ∧ u.switches[j].commanded = .thrown)
              (equal → exec (.replyReceived r) s = .next (finish (records { u with loop := { u.loop with
                urgent := u.loop.urgent.filter (· != j) } }))) ∧
              (¬equal → exec (.replyReceived r) s = .next (finish (records u))))))

/-- A detection record is refused with BAD_CAR, or given its timestamp, taken by CAR and handed on by its
kind: a gate's to pairing at the pairing gate alone, an entry's to settlement in RUN with an ARMED intent,
which it consumes, an exit's to the switch as a passage (R82, R140 to R142). -/
def Obligations.DetectionsHandedOn : Prop :=
  ∀ (a : NodeNo) (d : Detection) (s : State),
    (12 ≤ d.carId → takeRecord a s d = raise (.badCar a d.carId d.kind .invalidId (min d.age 1000)) s) ∧
    ∀ h : d.carId < 12,
      (s.cars[d.carId].profile.enabled = false →
        takeRecord a s d = raise (.badCar a d.carId d.kind .disabled (min d.age 1000)) s) ∧
      (s.cars[d.carId].profile.enabled = true →
        let k : CarNo := ⟨d.carId, h⟩
        let t := s.clock - BitVec.ofNat 32 (min d.age 1000)
        let u := takeDetection k { node := a, kind := d.kind } t s
        (d.kind = .gate → ∀ g : Fin 16, a = gateNode g →
          (s.map.pairingGate = some g.val → takeRecord a s d = pairingGateDetection k u) ∧
          (s.map.pairingGate ≠ some g.val → takeRecord a s d = u)) ∧
        (∀ j : SwitchNo, a = switchNode j →
          (d.kind = .entry → s.race = .run → s.cars[k].intent ≠ none → takeRecord a s d =
            settle k j t { u with cars := u.cars.set k { u.cars[k] with intent := none } }) ∧
          (d.kind = .entry → s.race ≠ .run ∨ s.cars[k].intent = none → takeRecord a s d = u) ∧
          (d.kind = .exitStraight → takeRecord a s d = passage k j false u) ∧
          (d.kind = .exitThrown → takeRecord a s d = passage k j true u)))

/-- The poll arbiter: an urgent exchange with the head of the urgent list while fewer than two have run in a
row, else a round exchange with the first polled node at or above the pointer, wrapping round; and the
command that each poll carries (R134, R145, R146). That with an empty polled set the run count and the pointer
stay is the model's choice (log entry 21). -/
def Obligations.PollArbiter : Prop :=
  ∀ s : State,
    (∀ j rest, s.loop.urgent = j :: rest → s.loop.urgentRun < 2 → arbitrate s = { s with loop := { s.loop with
      urgentRun := s.loop.urgentRun + 1
      exchange := some { node := switchNode j, urgent := true, replyBy := none, discard := false
                         command := if s.switches[j].commanded = .thrown then .setThrown else .setStraight } } }) ∧
    (s.loop.urgent = [] ∨ 2 ≤ s.loop.urgentRun →
      ((∀ a : NodeNo, s.map.polled a = false) → arbitrate s = { s with loop := { s.loop with exchange := none } }) ∧
      ∀ a : NodeNo, s.map.polled a = true →
        ((s.loop.pointer ≤ a ∧ ∀ b : NodeNo, s.loop.pointer ≤ b → b < a → s.map.polled b = false) ∨
          ((∀ b : NodeNo, s.loop.pointer ≤ b → s.map.polled b = false) ∧
            ∀ b : NodeNo, b < a → s.map.polled b = false)) →
        ∃ p : NodeNo, (p.val = if a.val = 39 then 0 else a.val + 1) ∧ arbitrate s = { s with loop := { s.loop with
          pointer := p, urgentRun := 0
          exchange := some { node := a, command := pollCommand a s, urgent := false, replyBy := none,
                             discard := false } } }) ∧
    ∀ a : NodeNo,
      (∀ j : SwitchNo, a = switchNode j → j ∈ s.loop.urgent →
        pollCommand a s = if s.switches[j].commanded = .thrown then .setThrown else .setStraight) ∧
      (∀ j : SwitchNo, a = switchNode j → j ∉ s.loop.urgent → pollCommand a s = .none) ∧
      (24 ≤ a.val → pollCommand a s = .none)

/-- Every step keeps switches, reservation lists, nodes and the loop fitting together: R111's table of the
switch laws, the unused values, a commanded THROWN only for a list with entries, empty lists in SETUP and
HALT, the urgent list and the polled set (R105, R110, R111, R132 to R134, R144, R145). -/
def Obligations.TrackLawKept : Prop := KeptByEveryStep TrackLaw

/-! ### Command frames (Chapter 8) -/

/-- A cycle end composes and publishes a frame, counts a missed one, signals it and hands the steps to CAR;
the published step is R154's and the word R155's (R151, R153 to R156). That a cycle end before its time does
nothing is the model's choice (log entry 3; reached: log entry 30). -/
def Obligations.CycleEndPublishes : Prop :=
  ∀ s : State, s.resetHeld = false →
    (s.now.hasReached s.frames.cycleEnd = false → exec .cycleEnd s = .next s) ∧
    (s.now.hasReached s.frames.cycleEnd = true → GoesTo (exec .cycleEnd s) fun t =>
      ∃ words, t.frames = { s.frames with
          cycleEnd := s.frames.cycleEnd.plus (288 + s.frames.trim)
          seq := s.frames.seq + 1
          published := some { seq := s.frames.seq + 1, race := s.race, words := words }
          fetched := false
          missed := if s.frames.published ≠ none ∧ s.frames.fetched = false ∧ s.frames.missed < 65535
            then s.frames.missed + 1 else s.frames.missed
          framePending := true } ∧
        t = { s with frames := t.frames, cars := t.cars } ∧
        (RangeLaw s → ∀ c : CarNo,
          let r := s.cars[c]
          let held := match r.binding with
            | some h => s.handsets[h].step
            | none => if r.profile.pace then s.limits.paceStep else 0
          let step := if r.profile.enabled = false ∨ s.race = .setup ∨ s.race = .halt then 0
            else if s.race = .caution then min held s.limits.cautionStep else held
          step ≤ 63 ∧ (words[c].extractLsb' 0 6).toNat = step ∧
          words[c].getLsbD 6 = (r.profile.enabled && step == 0) ∧
          words[c].getLsbD 7 = (r.profile.enabled && r.intent.isSome) ∧
          words[c].getLsbD 8 = (r.profile.enabled && s.race == .caution) ∧
          words[c].getLsbD 9 = r.profile.enabled ∧ words[c].extractLsb' 10 6 = 0 ∧
          t.cars[c] = { r with
            lastStep := step
            speed := if r.profile.enabled then estimate r.profile.vmax r.profile.response step r.speed
              else r.speed }))

/-- FETCH FRAME answers the published frame, with REPEAT and the missed count as they stand, and then marks it
fetched; SET CYCLE TRIM and SET LIMITS store what their tests accept; and their refusals (R152, R158,
R188). -/
def Obligations.FetchTrimAndLimits : Prop :=
  ∀ s : State,
    (FrameEnded .base 0x70 [] s →
      (s.frames.published = none → exec (.fetchFrame .base) s = .next (withReply .base 0x13 [] s)) ∧
      ∀ x, s.frames.published = some x → exec (.fetchFrame .base) s = .next (withReply .base 0x00
        ([x.seq, byte x.race.code, if s.frames.fetched then 0x00 else 0x01, byte s.frames.missed,
            byte (s.frames.missed / 256)] ++
          x.words.toList.flatMap fun w => [w.extractLsb' 0 8, w.extractLsb' 8 8])
        { s with frames := { s.frames with fetched := true, framePending := false } })) ∧
    (∀ trim : Byte, FrameEnded .console 0x71 [trim] s →
      (s.store ≠ .idle → exec (.setCycleTrim .console) s = .next (withReply .console 0x16 [] s)) ∧
      (s.store = .idle →
        (63 < trim.toNat → exec (.setCycleTrim .console) s = .next (withReply .console 0x14 [] s)) ∧
        (trim.toNat ≤ 63 → exec (.setCycleTrim .console) s =
          .next (withReply .console 0x00 [] { s with frames := { s.frames with trim := trim.toNat } })))) ∧
    ∀ l : Limits, l.guardTime ≤ 65535 → l.intentHold ≤ 255 → l.cautionStep ≤ 255 → l.paceStep ≤ 255 →
      FrameEnded .console 0x80 l.bytes s →
      (s.race ≠ .setup → l.guardTime ≠ s.limits.guardTime →
        exec (.setLimits .console) s = .next (withReply .console 0x13 [] s)) ∧
      (s.race = .setup ∨ l.guardTime = s.limits.guardTime →
        (s.store ≠ .idle → exec (.setLimits .console) s = .next (withReply .console 0x16 [] s)) ∧
        (s.store = .idle →
          (2000 < l.guardTime ∨ l.intentHold = 0 ∨ 63 < l.cautionStep ∨ 63 < l.paceStep →
            exec (.setLimits .console) s = .next (withReply .console 0x14 [] s)) ∧
          (l.guardTime ≤ 2000 → l.intentHold ≠ 0 → l.cautionStep ≤ 63 → l.paceStep ≤ 63 →
            exec (.setLimits .console) s = .next (withReply .console 0x00 [] { s with limits := l }))))

/-! ### The settings store and restarts (Chapter 11) -/

/-- SAVE IMAGE, LOAD IMAGE and RESTART by their tests; a save's writes in R199's order, each confirmed or
timed out, with what then stands in the memory; the image and the sum that a save writes; a load's failed check;
and the restart at the console's rise of chip select (R173, R174, R198 to R201). The model's choices: a
confirmation or a timeout of no save, or before its time, does nothing (log entry 3); the number of contents
writes (log entry 6); the encoding of the bytes summed (log entry 7); how much of the contents each write lands,
and the image read as each is confirmed (log entry 11); one write outstanding at a time (log entry 39); a confirmation past its limit counts (log entry 12); a
RESTART samples straps of any levels (log entry 16). -/
def Obligations.SettingsAndStore : Prop :=
  ∀ s : State,
    let limit := s.clock + 200
    let generation := if s.generation = 0xFFFF then 1 else s.generation + 1
    let image : Image :=
      { marker := true, generation := generation, map := s.map
        profiles := Vector.ofFn fun c : CarNo => s.cars[c].profile
        bindings := Vector.ofFn fun c : CarNo => s.cars[c].binding.map Fin.val
        calibrations := Vector.ofFn fun h : HandsetNo => s.handsets[h].calibration
        scanSet := s.scanner.setCode, scanInterval := s.scanner.intervalCode, trim := s.frames.trim
        limits := s.limits, sum := 0 }
    let wait : SaveStage → Nat → Image → State := fun stage left m => { s with
      store := .saving { stage := stage, left := left, confirmBy := limit }, memory := m }
    -- the image, its sum and the contents written part by part
    imageOf s = { image with sum := image.additiveSum } ∧
    (∀ i : Image, i.additiveSum = (bytes2 i.generation.toNat ++ i.map.segments.toList.flatMap Segment.bytes ++
      i.map.switches.toList.flatMap Switch.bytes ++ i.map.gates.toList.flatMap Gate.bytes ++
      [byteOrNone i.map.pairingGate] ++ i.profiles.toList.flatMap Profile.bytes ++
      i.bindings.toList.map byteOrNone ++ i.calibrations.toList.flatMap Calibration.bytes ++
      [byte i.scanSet, byte i.scanInterval, byte i.trim] ++ i.limits.bytes).foldr (fun b x => b.setWidth 16 + x) 0) ∧
    (∀ (i m : Image) (n : Nat),
      i.written 0 m = { m with marker := false } ∧ (13 ≤ n → i.written n m = { i with marker := false }) ∧
      i.written 1 m = { i.written 0 m with generation := i.generation } ∧
      i.written 2 m = { i.written 1 m with map := { m.map with segments := i.map.segments } } ∧
      i.written 3 m = { i.written 2 m with
        map := { m.map with segments := i.map.segments, switches := i.map.switches } } ∧
      i.written 4 m = { i.written 3 m with map := { i.map with pairingGate := m.map.pairingGate } } ∧
      i.written 5 m = { i.written 4 m with map := i.map } ∧
      i.written 6 m = { i.written 5 m with profiles := i.profiles } ∧
      i.written 7 m = { i.written 6 m with bindings := i.bindings } ∧
      i.written 8 m = { i.written 7 m with calibrations := i.calibrations } ∧
      i.written 9 m = { i.written 8 m with scanSet := i.scanSet } ∧
      i.written 10 m = { i.written 9 m with scanInterval := i.scanInterval } ∧
      i.written 11 m = { i.written 10 m with trim := i.trim } ∧
      i.written 12 m = { i.written 11 m with limits := i.limits }) ∧
    -- the requests
    (∀ x ∈ [Request.saveImage, .loadImage], FrameEnded .console x.code [] s →
      (s.race ≠ .setup → exec (x.instr .console) s = .next (withReply .console 0x13 [] s)) ∧
      (s.race = .setup → s.store ≠ .idle → exec (x.instr .console) s = .next (withReply .console 0x16 [] s))) ∧
    (s.race = .setup → s.store = .idle →
      (FrameEnded .console 0x81 [] s → exec (.saveImage .console) s =
        .next (withReply .console 0x00 [] (wait .clearMarker 0 { s.memory with marker := false }))) ∧
      (FrameEnded .console 0x82 [] s → exec (.loadImage .console) s =
        .next (withReply .console 0x00 [] { s with store := .loading }))) ∧
    (FrameEnded .console 0x83 [] s →
      (s.store ≠ .idle → exec (.restart .console) s = .next (withReply .console 0x16 [] s)) ∧
      (s.store = .idle → exec (.restart .console) s =
        .next (withReply .console 0x00 [] { s with restartAccepted := true }))) ∧
    (s.resetHeld = false →
      (s.restartAccepted = true → (s.ports.get .console).phase ≠ .taking → exec (.chipSelectRise .console) s =
        exec (.powerOnReset (Config.restartStraps s.picks)) { s with picks := s.picks + 1 }) ∧
      -- a save
      (∀ left by_, s.store = .saving { stage := .clearMarker, left := left, confirmBy := by_ } →
        exec .saveWriteConfirm s = .next (wait .contents Config.imageWrites s.memory)) ∧
      (∀ left by_, s.store = .saving { stage := .contents, left := left + 1, confirmBy := by_ } →
        exec .saveWriteConfirm s = .next (wait .contents left
          ((imageOf s).written (Config.imageProgress (Config.imageWrites - (left + 1))) s.memory))) ∧
      (∀ by_, s.store = .saving { stage := .contents, left := 0, confirmBy := by_ } →
        exec .saveWriteConfirm s = .next (wait .setMarker 0 { imageOf s with marker := false })) ∧
      (∀ left by_, s.store = .saving { stage := .setMarker, left := left, confirmBy := by_ } →
        exec .saveWriteConfirm s = .next (raise (.storeDone .save generation) { s with
          store := .idle, memory := { s.memory with marker := true }, generation := generation })) ∧
      (∀ p, s.store = .saving p →
        (reached s.clock p.confirmBy = false → exec .saveWriteTimeout s = .next s) ∧
        (reached s.clock p.confirmBy = true →
          exec .saveWriteTimeout s = .next (raise (.storeFail .save .noAck) { s with store := .idle }))) ∧
      ((∀ p, s.store ≠ .saving p) → exec .saveWriteConfirm s = .next s ∧ exec .saveWriteTimeout s = .next s) ∧
      -- a load
      (s.store ≠ .loading → exec .loadComplete s = .next s) ∧
      (s.store = .loading → ∀ reason,
        (reason = .marker ∧ s.memory.marker = false) ∨
        (s.memory.marker = true ∧
          ((reason = .sum ∧ s.memory.sum ≠ s.memory.additiveSum) ∨
          (s.memory.sum = s.memory.additiveSum ∧
            ((reason = .range ∧ s.memory.inRange = false) ∨
            (s.memory.inRange = true ∧
              ((reason = .binding ∧ s.memory.bindingsSound = false) ∨
              (s.memory.bindingsSound = true ∧ reason = .state ∧ s.race ≠ .setup))))))) →
        exec .loadComplete s = .next (raise (.storeFail .load reason) { s with store := .idle })))

/-- A save whose writes are all confirmed ends with its image in the memory; and a load of that image in SETUP
passes every check, gives back what was saved and takes effect as one arrival in every block: switches and nodes
follow the used fields that change, in ascending number, the exchange in flight with a node that leaves is to be
discarded, STORE_DONE is raised, and an idle loop starts (R40, R61, R80, R130, R133, R149, R198 to R201). The
model's choices: the number of contents writes, the image read at each, a confirmation past its limit, and one
write outstanding at a time (log entries 6, 11, 12 and 39). -/
def Obligations.SaveThenLoadRestores : Prop :=
  ∀ s : State, RangeLaw s → PairingLaw s →
    let generation := if s.generation = 0xFFFF then 1 else s.generation + 1
    (∀ left by_, s.resetHeld = false →
      s.store = .saving { stage := .clearMarker, left := left, confirmBy := by_ } →
      ∃ t, runCommands (List.replicate (Config.imageWrites + 3) .saveWriteConfirm) s = some t ∧
        t = raise (.storeDone .save generation)
          { s with store := .idle, memory := imageOf s, generation := generation }) ∧
    ∀ u : State, u.resetHeld = false → u.memory = imageOf s → u.store = .loading → u.race = .setup →
      let enters : NodeNo → Bool := fun a => !u.map.polled a && s.map.polled a
      let leaves : NodeNo → Bool := fun a => u.map.polled a && !s.map.polled a
      let t := raise (.storeDone .load generation) { u with
        map := s.map, mapValid := false, seeks := [], store := .idle, limits := s.limits, generation := generation
        cars := Vector.ofFn fun c : CarNo => { u.cars[c] with
          profile := s.cars[c].profile, binding := s.cars[c].binding, intent := none, fix := none,
          stale := false, ageExpiry := none,
          speed := if s.cars[c].profile.enabled then u.cars[c].speed else 0 }
        handsets := Vector.ofFn fun h : HandsetNo => { u.handsets[h] with
          presence := .absent, presenceCount := 0, step := 0, button := false, prevSample := none,
          holdTimer := none, holdEnd := none, lostTime := none, calibration := s.handsets[h].calibration,
          pairing := match s.handsets[h].pairing with
            | .bound c => .bound c
            | .idle | .seeking => .idle }
        scanner := { u.scanner with
          setCode := s.scanner.setCode, intervalCode := s.scanner.intervalCode, round := []
          nextRound := u.clock + BitVec.ofNat 32 (10 * 2 ^ s.scanner.intervalCode) }
        frames := { u.frames with trim := s.frames.trim }
        switches := Vector.ofFn fun j : SwitchNo =>
          if enters (switchNode j) then { u.switches[j] with
            state := .returning, commanded := .straight, confirmed := .unknown
            deadline := some (u.clock + BitVec.ofNat 32 ((s.map.switch j).actuation + 200)) }
          else if leaves (switchNode j) then { u.switches[j] with
            state := .straight, commanded := .straight, confirmed := .unknown, deadline := none }
          else u.switches[j]
        loop := { u.loop with
          nodes := Vector.ofFn fun a : NodeNo =>
            if enters a then { state := .ok, missCount := 0, goodCount := 0, exchanges := 0, misses := 0,
                               lastAnswer := none, lastMiss := none }
            else if leaves a then { u.loop.nodes[a] with state := .unpolled }
            else u.loop.nodes[a]
          urgent := u.loop.urgent.filter (fun j => !leaves (switchNode j)) ++
            (List.finRange 24).filter fun j => enters (switchNode j) && decide (j ∉ u.loop.urgent)
          exchange := u.loop.exchange.map fun x => if leaves x.node then { x with discard := true } else x } }
      exec .loadComplete u =
        .next (if t.loop.exchange = none ∧ ∃ a : NodeNo, s.map.polled a = true then arbitrate t else t)

/-- Every step keeps the frame builder's and the ports' records fitting together (R150, R157, R158, R176 to
R179). -/
def Obligations.FrameAndPortLawsKept : Prop := KeptByEveryStep FrameLaw ∧ KeptByEveryStep PortLaw

/-- The reset state meets every law. -/
def Obligations.ResetMeetsTheLaws : Prop :=
  RailLaw State.reset ∧ IntentLaw State.reset ∧ PairingLaw State.reset ∧ ReservationLaw State.reset ∧
    TrackLaw State.reset ∧ EventLaw State.reset ∧ RangeLaw State.reset ∧ FrameLaw State.reset ∧
    PortLaw State.reset
end

