-- ==== Sys2Proof/Laws/State.lean ====
section
/-! SUPPORT. What each update of the state leaves in each field, one lemma a field, true by unfolding: later
proofs never unfold a record update. -/

namespace Sys2Proof.Machine

variable (s : State)

/-! ### `modifyPort` -/

@[simp] theorem State.modifyPort_pending (p : Port) (f : PortState → PortState) :
    (s.modifyPort p f).pending = s.pending := rfl
@[simp] theorem State.modifyPort_clock (p : Port) (f : PortState → PortState) :
    (s.modifyPort p f).clock = s.clock := rfl
@[simp] theorem State.modifyPort_quarter (p : Port) (f : PortState → PortState) :
    (s.modifyPort p f).quarter = s.quarter := rfl
@[simp] theorem State.modifyPort_picks (p : Port) (f : PortState → PortState) :
    (s.modifyPort p f).picks = s.picks := rfl
@[simp] theorem State.modifyPort_resetHeld (p : Port) (f : PortState → PortState) :
    (s.modifyPort p f).resetHeld = s.resetHeld := rfl
@[simp] theorem State.modifyPort_straps (p : Port) (f : PortState → PortState) :
    (s.modifyPort p f).straps = s.straps := rfl
@[simp] theorem State.modifyPort_restartAccepted (p : Port) (f : PortState → PortState) :
    (s.modifyPort p f).restartAccepted = s.restartAccepted := rfl
@[simp] theorem State.modifyPort_ports (p : Port) (f : PortState → PortState) :
    (s.modifyPort p f).ports = s.ports.update p f := rfl
@[simp] theorem State.modifyPort_events (p : Port) (f : PortState → PortState) :
    (s.modifyPort p f).events = s.events := rfl
@[simp] theorem State.modifyPort_map (p : Port) (f : PortState → PortState) :
    (s.modifyPort p f).map = s.map := rfl
@[simp] theorem State.modifyPort_mapValid (p : Port) (f : PortState → PortState) :
    (s.modifyPort p f).mapValid = s.mapValid := rfl
@[simp] theorem State.modifyPort_cars (p : Port) (f : PortState → PortState) :
    (s.modifyPort p f).cars = s.cars := rfl
@[simp] theorem State.modifyPort_handsets (p : Port) (f : PortState → PortState) :
    (s.modifyPort p f).handsets = s.handsets := rfl
@[simp] theorem State.modifyPort_scanner (p : Port) (f : PortState → PortState) :
    (s.modifyPort p f).scanner = s.scanner := rfl
@[simp] theorem State.modifyPort_seeks (p : Port) (f : PortState → PortState) :
    (s.modifyPort p f).seeks = s.seeks := rfl
@[simp] theorem State.modifyPort_lists (p : Port) (f : PortState → PortState) :
    (s.modifyPort p f).lists = s.lists := rfl
@[simp] theorem State.modifyPort_verdicts (p : Port) (f : PortState → PortState) :
    (s.modifyPort p f).verdicts = s.verdicts := rfl
@[simp] theorem State.modifyPort_switches (p : Port) (f : PortState → PortState) :
    (s.modifyPort p f).switches = s.switches := rfl
@[simp] theorem State.modifyPort_loop (p : Port) (f : PortState → PortState) :
    (s.modifyPort p f).loop = s.loop := rfl
@[simp] theorem State.modifyPort_frames (p : Port) (f : PortState → PortState) :
    (s.modifyPort p f).frames = s.frames := rfl
@[simp] theorem State.modifyPort_race (p : Port) (f : PortState → PortState) :
    (s.modifyPort p f).race = s.race := rfl
@[simp] theorem State.modifyPort_railHold (p : Port) (f : PortState → PortState) :
    (s.modifyPort p f).railHold = s.railHold := rfl
@[simp] theorem State.modifyPort_limits (p : Port) (f : PortState → PortState) :
    (s.modifyPort p f).limits = s.limits := rfl
@[simp] theorem State.modifyPort_store (p : Port) (f : PortState → PortState) :
    (s.modifyPort p f).store = s.store := rfl
@[simp] theorem State.modifyPort_generation (p : Port) (f : PortState → PortState) :
    (s.modifyPort p f).generation = s.generation := rfl
@[simp] theorem State.modifyPort_memory (p : Port) (f : PortState → PortState) :
    (s.modifyPort p f).memory = s.memory := rfl

/-! ### `modifyEvents` -/

@[simp] theorem State.modifyEvents_pending (p : Port) (f : EventPort → EventPort) :
    (s.modifyEvents p f).pending = s.pending := rfl
@[simp] theorem State.modifyEvents_clock (p : Port) (f : EventPort → EventPort) :
    (s.modifyEvents p f).clock = s.clock := rfl
@[simp] theorem State.modifyEvents_quarter (p : Port) (f : EventPort → EventPort) :
    (s.modifyEvents p f).quarter = s.quarter := rfl
@[simp] theorem State.modifyEvents_picks (p : Port) (f : EventPort → EventPort) :
    (s.modifyEvents p f).picks = s.picks := rfl
@[simp] theorem State.modifyEvents_resetHeld (p : Port) (f : EventPort → EventPort) :
    (s.modifyEvents p f).resetHeld = s.resetHeld := rfl
@[simp] theorem State.modifyEvents_straps (p : Port) (f : EventPort → EventPort) :
    (s.modifyEvents p f).straps = s.straps := rfl
@[simp] theorem State.modifyEvents_restartAccepted (p : Port) (f : EventPort → EventPort) :
    (s.modifyEvents p f).restartAccepted = s.restartAccepted := rfl
@[simp] theorem State.modifyEvents_ports (p : Port) (f : EventPort → EventPort) :
    (s.modifyEvents p f).ports = s.ports := rfl
@[simp] theorem State.modifyEvents_events (p : Port) (f : EventPort → EventPort) :
    (s.modifyEvents p f).events = s.events.update p f := rfl
@[simp] theorem State.modifyEvents_map (p : Port) (f : EventPort → EventPort) :
    (s.modifyEvents p f).map = s.map := rfl
@[simp] theorem State.modifyEvents_mapValid (p : Port) (f : EventPort → EventPort) :
    (s.modifyEvents p f).mapValid = s.mapValid := rfl
@[simp] theorem State.modifyEvents_cars (p : Port) (f : EventPort → EventPort) :
    (s.modifyEvents p f).cars = s.cars := rfl
@[simp] theorem State.modifyEvents_handsets (p : Port) (f : EventPort → EventPort) :
    (s.modifyEvents p f).handsets = s.handsets := rfl
@[simp] theorem State.modifyEvents_scanner (p : Port) (f : EventPort → EventPort) :
    (s.modifyEvents p f).scanner = s.scanner := rfl
@[simp] theorem State.modifyEvents_seeks (p : Port) (f : EventPort → EventPort) :
    (s.modifyEvents p f).seeks = s.seeks := rfl
@[simp] theorem State.modifyEvents_lists (p : Port) (f : EventPort → EventPort) :
    (s.modifyEvents p f).lists = s.lists := rfl
@[simp] theorem State.modifyEvents_verdicts (p : Port) (f : EventPort → EventPort) :
    (s.modifyEvents p f).verdicts = s.verdicts := rfl
@[simp] theorem State.modifyEvents_switches (p : Port) (f : EventPort → EventPort) :
    (s.modifyEvents p f).switches = s.switches := rfl
@[simp] theorem State.modifyEvents_loop (p : Port) (f : EventPort → EventPort) :
    (s.modifyEvents p f).loop = s.loop := rfl
@[simp] theorem State.modifyEvents_frames (p : Port) (f : EventPort → EventPort) :
    (s.modifyEvents p f).frames = s.frames := rfl
@[simp] theorem State.modifyEvents_race (p : Port) (f : EventPort → EventPort) :
    (s.modifyEvents p f).race = s.race := rfl
@[simp] theorem State.modifyEvents_railHold (p : Port) (f : EventPort → EventPort) :
    (s.modifyEvents p f).railHold = s.railHold := rfl
@[simp] theorem State.modifyEvents_limits (p : Port) (f : EventPort → EventPort) :
    (s.modifyEvents p f).limits = s.limits := rfl
@[simp] theorem State.modifyEvents_store (p : Port) (f : EventPort → EventPort) :
    (s.modifyEvents p f).store = s.store := rfl
@[simp] theorem State.modifyEvents_generation (p : Port) (f : EventPort → EventPort) :
    (s.modifyEvents p f).generation = s.generation := rfl
@[simp] theorem State.modifyEvents_memory (p : Port) (f : EventPort → EventPort) :
    (s.modifyEvents p f).memory = s.memory := rfl

/-! ### `modifyCar` -/

@[simp] theorem State.modifyCar_pending (c : CarNo) (f : Car → Car) :
    (s.modifyCar c f).pending = s.pending := rfl
@[simp] theorem State.modifyCar_clock (c : CarNo) (f : Car → Car) : (s.modifyCar c f).clock = s.clock := rfl
@[simp] theorem State.modifyCar_quarter (c : CarNo) (f : Car → Car) :
    (s.modifyCar c f).quarter = s.quarter := rfl
@[simp] theorem State.modifyCar_picks (c : CarNo) (f : Car → Car) : (s.modifyCar c f).picks = s.picks := rfl
@[simp] theorem State.modifyCar_resetHeld (c : CarNo) (f : Car → Car) :
    (s.modifyCar c f).resetHeld = s.resetHeld := rfl
@[simp] theorem State.modifyCar_straps (c : CarNo) (f : Car → Car) :
    (s.modifyCar c f).straps = s.straps := rfl
@[simp] theorem State.modifyCar_restartAccepted (c : CarNo) (f : Car → Car) :
    (s.modifyCar c f).restartAccepted = s.restartAccepted := rfl
@[simp] theorem State.modifyCar_ports (c : CarNo) (f : Car → Car) : (s.modifyCar c f).ports = s.ports := rfl
@[simp] theorem State.modifyCar_events (c : CarNo) (f : Car → Car) :
    (s.modifyCar c f).events = s.events := rfl
@[simp] theorem State.modifyCar_map (c : CarNo) (f : Car → Car) : (s.modifyCar c f).map = s.map := rfl
@[simp] theorem State.modifyCar_mapValid (c : CarNo) (f : Car → Car) :
    (s.modifyCar c f).mapValid = s.mapValid := rfl
@[simp] theorem State.modifyCar_cars (c : CarNo) (f : Car → Car) :
    (s.modifyCar c f).cars = update s.cars c f := rfl
@[simp] theorem State.modifyCar_handsets (c : CarNo) (f : Car → Car) :
    (s.modifyCar c f).handsets = s.handsets := rfl
@[simp] theorem State.modifyCar_scanner (c : CarNo) (f : Car → Car) :
    (s.modifyCar c f).scanner = s.scanner := rfl
@[simp] theorem State.modifyCar_seeks (c : CarNo) (f : Car → Car) : (s.modifyCar c f).seeks = s.seeks := rfl
@[simp] theorem State.modifyCar_lists (c : CarNo) (f : Car → Car) : (s.modifyCar c f).lists = s.lists := rfl
@[simp] theorem State.modifyCar_verdicts (c : CarNo) (f : Car → Car) :
    (s.modifyCar c f).verdicts = s.verdicts := rfl
@[simp] theorem State.modifyCar_switches (c : CarNo) (f : Car → Car) :
    (s.modifyCar c f).switches = s.switches := rfl
@[simp] theorem State.modifyCar_loop (c : CarNo) (f : Car → Car) : (s.modifyCar c f).loop = s.loop := rfl
@[simp] theorem State.modifyCar_frames (c : CarNo) (f : Car → Car) :
    (s.modifyCar c f).frames = s.frames := rfl
@[simp] theorem State.modifyCar_race (c : CarNo) (f : Car → Car) : (s.modifyCar c f).race = s.race := rfl
@[simp] theorem State.modifyCar_railHold (c : CarNo) (f : Car → Car) :
    (s.modifyCar c f).railHold = s.railHold := rfl
@[simp] theorem State.modifyCar_limits (c : CarNo) (f : Car → Car) :
    (s.modifyCar c f).limits = s.limits := rfl
@[simp] theorem State.modifyCar_store (c : CarNo) (f : Car → Car) : (s.modifyCar c f).store = s.store := rfl
@[simp] theorem State.modifyCar_generation (c : CarNo) (f : Car → Car) :
    (s.modifyCar c f).generation = s.generation := rfl
@[simp] theorem State.modifyCar_memory (c : CarNo) (f : Car → Car) :
    (s.modifyCar c f).memory = s.memory := rfl

/-! ### `modifyCars` -/

@[simp] theorem State.modifyCars_pending (f : Car → Car) : (s.modifyCars f).pending = s.pending := rfl
@[simp] theorem State.modifyCars_clock (f : Car → Car) : (s.modifyCars f).clock = s.clock := rfl
@[simp] theorem State.modifyCars_quarter (f : Car → Car) : (s.modifyCars f).quarter = s.quarter := rfl
@[simp] theorem State.modifyCars_picks (f : Car → Car) : (s.modifyCars f).picks = s.picks := rfl
@[simp] theorem State.modifyCars_resetHeld (f : Car → Car) : (s.modifyCars f).resetHeld = s.resetHeld := rfl
@[simp] theorem State.modifyCars_straps (f : Car → Car) : (s.modifyCars f).straps = s.straps := rfl
@[simp] theorem State.modifyCars_restartAccepted (f : Car → Car) :
    (s.modifyCars f).restartAccepted = s.restartAccepted := rfl
@[simp] theorem State.modifyCars_ports (f : Car → Car) : (s.modifyCars f).ports = s.ports := rfl
@[simp] theorem State.modifyCars_events (f : Car → Car) : (s.modifyCars f).events = s.events := rfl
@[simp] theorem State.modifyCars_map (f : Car → Car) : (s.modifyCars f).map = s.map := rfl
@[simp] theorem State.modifyCars_mapValid (f : Car → Car) : (s.modifyCars f).mapValid = s.mapValid := rfl
@[simp] theorem State.modifyCars_cars (f : Car → Car) :
    (s.modifyCars f).cars = updateAll s.cars fun _ => f := rfl
@[simp] theorem State.modifyCars_handsets (f : Car → Car) : (s.modifyCars f).handsets = s.handsets := rfl
@[simp] theorem State.modifyCars_scanner (f : Car → Car) : (s.modifyCars f).scanner = s.scanner := rfl
@[simp] theorem State.modifyCars_seeks (f : Car → Car) : (s.modifyCars f).seeks = s.seeks := rfl
@[simp] theorem State.modifyCars_lists (f : Car → Car) : (s.modifyCars f).lists = s.lists := rfl
@[simp] theorem State.modifyCars_verdicts (f : Car → Car) : (s.modifyCars f).verdicts = s.verdicts := rfl
@[simp] theorem State.modifyCars_switches (f : Car → Car) : (s.modifyCars f).switches = s.switches := rfl
@[simp] theorem State.modifyCars_loop (f : Car → Car) : (s.modifyCars f).loop = s.loop := rfl
@[simp] theorem State.modifyCars_frames (f : Car → Car) : (s.modifyCars f).frames = s.frames := rfl
@[simp] theorem State.modifyCars_race (f : Car → Car) : (s.modifyCars f).race = s.race := rfl
@[simp] theorem State.modifyCars_railHold (f : Car → Car) : (s.modifyCars f).railHold = s.railHold := rfl
@[simp] theorem State.modifyCars_limits (f : Car → Car) : (s.modifyCars f).limits = s.limits := rfl
@[simp] theorem State.modifyCars_store (f : Car → Car) : (s.modifyCars f).store = s.store := rfl
@[simp] theorem State.modifyCars_generation (f : Car → Car) :
    (s.modifyCars f).generation = s.generation := rfl
@[simp] theorem State.modifyCars_memory (f : Car → Car) : (s.modifyCars f).memory = s.memory := rfl

/-! ### `modifyHandset` -/

@[simp] theorem State.modifyHandset_pending (h : HandsetNo) (f : Handset → Handset) :
    (s.modifyHandset h f).pending = s.pending := rfl
@[simp] theorem State.modifyHandset_clock (h : HandsetNo) (f : Handset → Handset) :
    (s.modifyHandset h f).clock = s.clock := rfl
@[simp] theorem State.modifyHandset_quarter (h : HandsetNo) (f : Handset → Handset) :
    (s.modifyHandset h f).quarter = s.quarter := rfl
@[simp] theorem State.modifyHandset_picks (h : HandsetNo) (f : Handset → Handset) :
    (s.modifyHandset h f).picks = s.picks := rfl
@[simp] theorem State.modifyHandset_resetHeld (h : HandsetNo) (f : Handset → Handset) :
    (s.modifyHandset h f).resetHeld = s.resetHeld := rfl
@[simp] theorem State.modifyHandset_straps (h : HandsetNo) (f : Handset → Handset) :
    (s.modifyHandset h f).straps = s.straps := rfl
@[simp] theorem State.modifyHandset_restartAccepted (h : HandsetNo) (f : Handset → Handset) :
    (s.modifyHandset h f).restartAccepted = s.restartAccepted := rfl
@[simp] theorem State.modifyHandset_ports (h : HandsetNo) (f : Handset → Handset) :
    (s.modifyHandset h f).ports = s.ports := rfl
@[simp] theorem State.modifyHandset_events (h : HandsetNo) (f : Handset → Handset) :
    (s.modifyHandset h f).events = s.events := rfl
@[simp] theorem State.modifyHandset_map (h : HandsetNo) (f : Handset → Handset) :
    (s.modifyHandset h f).map = s.map := rfl
@[simp] theorem State.modifyHandset_mapValid (h : HandsetNo) (f : Handset → Handset) :
    (s.modifyHandset h f).mapValid = s.mapValid := rfl
@[simp] theorem State.modifyHandset_cars (h : HandsetNo) (f : Handset → Handset) :
    (s.modifyHandset h f).cars = s.cars := rfl
@[simp] theorem State.modifyHandset_handsets (h : HandsetNo) (f : Handset → Handset) :
    (s.modifyHandset h f).handsets = update s.handsets h f := rfl
@[simp] theorem State.modifyHandset_scanner (h : HandsetNo) (f : Handset → Handset) :
    (s.modifyHandset h f).scanner = s.scanner := rfl
@[simp] theorem State.modifyHandset_seeks (h : HandsetNo) (f : Handset → Handset) :
    (s.modifyHandset h f).seeks = s.seeks := rfl
@[simp] theorem State.modifyHandset_lists (h : HandsetNo) (f : Handset → Handset) :
    (s.modifyHandset h f).lists = s.lists := rfl
@[simp] theorem State.modifyHandset_verdicts (h : HandsetNo) (f : Handset → Handset) :
    (s.modifyHandset h f).verdicts = s.verdicts := rfl
@[simp] theorem State.modifyHandset_switches (h : HandsetNo) (f : Handset → Handset) :
    (s.modifyHandset h f).switches = s.switches := rfl
@[simp] theorem State.modifyHandset_loop (h : HandsetNo) (f : Handset → Handset) :
    (s.modifyHandset h f).loop = s.loop := rfl
@[simp] theorem State.modifyHandset_frames (h : HandsetNo) (f : Handset → Handset) :
    (s.modifyHandset h f).frames = s.frames := rfl
@[simp] theorem State.modifyHandset_race (h : HandsetNo) (f : Handset → Handset) :
    (s.modifyHandset h f).race = s.race := rfl
@[simp] theorem State.modifyHandset_railHold (h : HandsetNo) (f : Handset → Handset) :
    (s.modifyHandset h f).railHold = s.railHold := rfl
@[simp] theorem State.modifyHandset_limits (h : HandsetNo) (f : Handset → Handset) :
    (s.modifyHandset h f).limits = s.limits := rfl
@[simp] theorem State.modifyHandset_store (h : HandsetNo) (f : Handset → Handset) :
    (s.modifyHandset h f).store = s.store := rfl
@[simp] theorem State.modifyHandset_generation (h : HandsetNo) (f : Handset → Handset) :
    (s.modifyHandset h f).generation = s.generation := rfl
@[simp] theorem State.modifyHandset_memory (h : HandsetNo) (f : Handset → Handset) :
    (s.modifyHandset h f).memory = s.memory := rfl

/-! ### `modifySwitch` -/

@[simp] theorem State.modifySwitch_pending (j : SwitchNo) (f : SwitchRun → SwitchRun) :
    (s.modifySwitch j f).pending = s.pending := rfl
@[simp] theorem State.modifySwitch_clock (j : SwitchNo) (f : SwitchRun → SwitchRun) :
    (s.modifySwitch j f).clock = s.clock := rfl
@[simp] theorem State.modifySwitch_quarter (j : SwitchNo) (f : SwitchRun → SwitchRun) :
    (s.modifySwitch j f).quarter = s.quarter := rfl
@[simp] theorem State.modifySwitch_picks (j : SwitchNo) (f : SwitchRun → SwitchRun) :
    (s.modifySwitch j f).picks = s.picks := rfl
@[simp] theorem State.modifySwitch_resetHeld (j : SwitchNo) (f : SwitchRun → SwitchRun) :
    (s.modifySwitch j f).resetHeld = s.resetHeld := rfl
@[simp] theorem State.modifySwitch_straps (j : SwitchNo) (f : SwitchRun → SwitchRun) :
    (s.modifySwitch j f).straps = s.straps := rfl
@[simp] theorem State.modifySwitch_restartAccepted (j : SwitchNo) (f : SwitchRun → SwitchRun) :
    (s.modifySwitch j f).restartAccepted = s.restartAccepted := rfl
@[simp] theorem State.modifySwitch_ports (j : SwitchNo) (f : SwitchRun → SwitchRun) :
    (s.modifySwitch j f).ports = s.ports := rfl
@[simp] theorem State.modifySwitch_events (j : SwitchNo) (f : SwitchRun → SwitchRun) :
    (s.modifySwitch j f).events = s.events := rfl
@[simp] theorem State.modifySwitch_map (j : SwitchNo) (f : SwitchRun → SwitchRun) :
    (s.modifySwitch j f).map = s.map := rfl
@[simp] theorem State.modifySwitch_mapValid (j : SwitchNo) (f : SwitchRun → SwitchRun) :
    (s.modifySwitch j f).mapValid = s.mapValid := rfl
@[simp] theorem State.modifySwitch_cars (j : SwitchNo) (f : SwitchRun → SwitchRun) :
    (s.modifySwitch j f).cars = s.cars := rfl
@[simp] theorem State.modifySwitch_handsets (j : SwitchNo) (f : SwitchRun → SwitchRun) :
    (s.modifySwitch j f).handsets = s.handsets := rfl
@[simp] theorem State.modifySwitch_scanner (j : SwitchNo) (f : SwitchRun → SwitchRun) :
    (s.modifySwitch j f).scanner = s.scanner := rfl
@[simp] theorem State.modifySwitch_seeks (j : SwitchNo) (f : SwitchRun → SwitchRun) :
    (s.modifySwitch j f).seeks = s.seeks := rfl
@[simp] theorem State.modifySwitch_lists (j : SwitchNo) (f : SwitchRun → SwitchRun) :
    (s.modifySwitch j f).lists = s.lists := rfl
@[simp] theorem State.modifySwitch_verdicts (j : SwitchNo) (f : SwitchRun → SwitchRun) :
    (s.modifySwitch j f).verdicts = s.verdicts := rfl
@[simp] theorem State.modifySwitch_switches (j : SwitchNo) (f : SwitchRun → SwitchRun) :
    (s.modifySwitch j f).switches = update s.switches j f := rfl
@[simp] theorem State.modifySwitch_loop (j : SwitchNo) (f : SwitchRun → SwitchRun) :
    (s.modifySwitch j f).loop = s.loop := rfl
@[simp] theorem State.modifySwitch_frames (j : SwitchNo) (f : SwitchRun → SwitchRun) :
    (s.modifySwitch j f).frames = s.frames := rfl
@[simp] theorem State.modifySwitch_race (j : SwitchNo) (f : SwitchRun → SwitchRun) :
    (s.modifySwitch j f).race = s.race := rfl
@[simp] theorem State.modifySwitch_railHold (j : SwitchNo) (f : SwitchRun → SwitchRun) :
    (s.modifySwitch j f).railHold = s.railHold := rfl
@[simp] theorem State.modifySwitch_limits (j : SwitchNo) (f : SwitchRun → SwitchRun) :
    (s.modifySwitch j f).limits = s.limits := rfl
@[simp] theorem State.modifySwitch_store (j : SwitchNo) (f : SwitchRun → SwitchRun) :
    (s.modifySwitch j f).store = s.store := rfl
@[simp] theorem State.modifySwitch_generation (j : SwitchNo) (f : SwitchRun → SwitchRun) :
    (s.modifySwitch j f).generation = s.generation := rfl
@[simp] theorem State.modifySwitch_memory (j : SwitchNo) (f : SwitchRun → SwitchRun) :
    (s.modifySwitch j f).memory = s.memory := rfl

/-! ### `setList` -/

@[simp] theorem State.setList_pending (j : SwitchNo) (l : List Reservation) :
    (s.setList j l).pending = s.pending := rfl
@[simp] theorem State.setList_clock (j : SwitchNo) (l : List Reservation) :
    (s.setList j l).clock = s.clock := rfl
@[simp] theorem State.setList_quarter (j : SwitchNo) (l : List Reservation) :
    (s.setList j l).quarter = s.quarter := rfl
@[simp] theorem State.setList_picks (j : SwitchNo) (l : List Reservation) :
    (s.setList j l).picks = s.picks := rfl
@[simp] theorem State.setList_resetHeld (j : SwitchNo) (l : List Reservation) :
    (s.setList j l).resetHeld = s.resetHeld := rfl
@[simp] theorem State.setList_straps (j : SwitchNo) (l : List Reservation) :
    (s.setList j l).straps = s.straps := rfl
@[simp] theorem State.setList_restartAccepted (j : SwitchNo) (l : List Reservation) :
    (s.setList j l).restartAccepted = s.restartAccepted := rfl
@[simp] theorem State.setList_ports (j : SwitchNo) (l : List Reservation) :
    (s.setList j l).ports = s.ports := rfl
@[simp] theorem State.setList_events (j : SwitchNo) (l : List Reservation) :
    (s.setList j l).events = s.events := rfl
@[simp] theorem State.setList_map (j : SwitchNo) (l : List Reservation) : (s.setList j l).map = s.map := rfl
@[simp] theorem State.setList_mapValid (j : SwitchNo) (l : List Reservation) :
    (s.setList j l).mapValid = s.mapValid := rfl
@[simp] theorem State.setList_cars (j : SwitchNo) (l : List Reservation) :
    (s.setList j l).cars = s.cars := rfl
@[simp] theorem State.setList_handsets (j : SwitchNo) (l : List Reservation) :
    (s.setList j l).handsets = s.handsets := rfl
@[simp] theorem State.setList_scanner (j : SwitchNo) (l : List Reservation) :
    (s.setList j l).scanner = s.scanner := rfl
@[simp] theorem State.setList_seeks (j : SwitchNo) (l : List Reservation) :
    (s.setList j l).seeks = s.seeks := rfl
@[simp] theorem State.setList_lists (j : SwitchNo) (l : List Reservation) :
    (s.setList j l).lists = update s.lists j fun _ => l := rfl
@[simp] theorem State.setList_verdicts (j : SwitchNo) (l : List Reservation) :
    (s.setList j l).verdicts = s.verdicts := rfl
@[simp] theorem State.setList_switches (j : SwitchNo) (l : List Reservation) :
    (s.setList j l).switches = s.switches := rfl
@[simp] theorem State.setList_loop (j : SwitchNo) (l : List Reservation) :
    (s.setList j l).loop = s.loop := rfl
@[simp] theorem State.setList_frames (j : SwitchNo) (l : List Reservation) :
    (s.setList j l).frames = s.frames := rfl
@[simp] theorem State.setList_race (j : SwitchNo) (l : List Reservation) :
    (s.setList j l).race = s.race := rfl
@[simp] theorem State.setList_railHold (j : SwitchNo) (l : List Reservation) :
    (s.setList j l).railHold = s.railHold := rfl
@[simp] theorem State.setList_limits (j : SwitchNo) (l : List Reservation) :
    (s.setList j l).limits = s.limits := rfl
@[simp] theorem State.setList_store (j : SwitchNo) (l : List Reservation) :
    (s.setList j l).store = s.store := rfl
@[simp] theorem State.setList_generation (j : SwitchNo) (l : List Reservation) :
    (s.setList j l).generation = s.generation := rfl
@[simp] theorem State.setList_memory (j : SwitchNo) (l : List Reservation) :
    (s.setList j l).memory = s.memory := rfl

/-! ### `modifyNode` -/

@[simp] theorem State.modifyNode_pending (a : NodeNo) (f : NodeRecord → NodeRecord) :
    (s.modifyNode a f).pending = s.pending := rfl
@[simp] theorem State.modifyNode_clock (a : NodeNo) (f : NodeRecord → NodeRecord) :
    (s.modifyNode a f).clock = s.clock := rfl
@[simp] theorem State.modifyNode_quarter (a : NodeNo) (f : NodeRecord → NodeRecord) :
    (s.modifyNode a f).quarter = s.quarter := rfl
@[simp] theorem State.modifyNode_picks (a : NodeNo) (f : NodeRecord → NodeRecord) :
    (s.modifyNode a f).picks = s.picks := rfl
@[simp] theorem State.modifyNode_resetHeld (a : NodeNo) (f : NodeRecord → NodeRecord) :
    (s.modifyNode a f).resetHeld = s.resetHeld := rfl
@[simp] theorem State.modifyNode_straps (a : NodeNo) (f : NodeRecord → NodeRecord) :
    (s.modifyNode a f).straps = s.straps := rfl
@[simp] theorem State.modifyNode_restartAccepted (a : NodeNo) (f : NodeRecord → NodeRecord) :
    (s.modifyNode a f).restartAccepted = s.restartAccepted := rfl
@[simp] theorem State.modifyNode_ports (a : NodeNo) (f : NodeRecord → NodeRecord) :
    (s.modifyNode a f).ports = s.ports := rfl
@[simp] theorem State.modifyNode_events (a : NodeNo) (f : NodeRecord → NodeRecord) :
    (s.modifyNode a f).events = s.events := rfl
@[simp] theorem State.modifyNode_map (a : NodeNo) (f : NodeRecord → NodeRecord) :
    (s.modifyNode a f).map = s.map := rfl
@[simp] theorem State.modifyNode_mapValid (a : NodeNo) (f : NodeRecord → NodeRecord) :
    (s.modifyNode a f).mapValid = s.mapValid := rfl
@[simp] theorem State.modifyNode_cars (a : NodeNo) (f : NodeRecord → NodeRecord) :
    (s.modifyNode a f).cars = s.cars := rfl
@[simp] theorem State.modifyNode_handsets (a : NodeNo) (f : NodeRecord → NodeRecord) :
    (s.modifyNode a f).handsets = s.handsets := rfl
@[simp] theorem State.modifyNode_scanner (a : NodeNo) (f : NodeRecord → NodeRecord) :
    (s.modifyNode a f).scanner = s.scanner := rfl
@[simp] theorem State.modifyNode_seeks (a : NodeNo) (f : NodeRecord → NodeRecord) :
    (s.modifyNode a f).seeks = s.seeks := rfl
@[simp] theorem State.modifyNode_lists (a : NodeNo) (f : NodeRecord → NodeRecord) :
    (s.modifyNode a f).lists = s.lists := rfl
@[simp] theorem State.modifyNode_verdicts (a : NodeNo) (f : NodeRecord → NodeRecord) :
    (s.modifyNode a f).verdicts = s.verdicts := rfl
@[simp] theorem State.modifyNode_switches (a : NodeNo) (f : NodeRecord → NodeRecord) :
    (s.modifyNode a f).switches = s.switches := rfl
@[simp] theorem State.modifyNode_loop (a : NodeNo) (f : NodeRecord → NodeRecord) :
    (s.modifyNode a f).loop = { s.loop with nodes := update s.loop.nodes a f } := rfl
@[simp] theorem State.modifyNode_frames (a : NodeNo) (f : NodeRecord → NodeRecord) :
    (s.modifyNode a f).frames = s.frames := rfl
@[simp] theorem State.modifyNode_race (a : NodeNo) (f : NodeRecord → NodeRecord) :
    (s.modifyNode a f).race = s.race := rfl
@[simp] theorem State.modifyNode_railHold (a : NodeNo) (f : NodeRecord → NodeRecord) :
    (s.modifyNode a f).railHold = s.railHold := rfl
@[simp] theorem State.modifyNode_limits (a : NodeNo) (f : NodeRecord → NodeRecord) :
    (s.modifyNode a f).limits = s.limits := rfl
@[simp] theorem State.modifyNode_store (a : NodeNo) (f : NodeRecord → NodeRecord) :
    (s.modifyNode a f).store = s.store := rfl
@[simp] theorem State.modifyNode_generation (a : NodeNo) (f : NodeRecord → NodeRecord) :
    (s.modifyNode a f).generation = s.generation := rfl
@[simp] theorem State.modifyNode_memory (a : NodeNo) (f : NodeRecord → NodeRecord) :
    (s.modifyNode a f).memory = s.memory := rfl

/-! ### `setUrgent` -/

@[simp] theorem State.setUrgent_pending (l : List SwitchNo) : (s.setUrgent l).pending = s.pending := rfl
@[simp] theorem State.setUrgent_clock (l : List SwitchNo) : (s.setUrgent l).clock = s.clock := rfl
@[simp] theorem State.setUrgent_quarter (l : List SwitchNo) : (s.setUrgent l).quarter = s.quarter := rfl
@[simp] theorem State.setUrgent_picks (l : List SwitchNo) : (s.setUrgent l).picks = s.picks := rfl
@[simp] theorem State.setUrgent_resetHeld (l : List SwitchNo) : (s.setUrgent l).resetHeld = s.resetHeld := rfl
@[simp] theorem State.setUrgent_straps (l : List SwitchNo) : (s.setUrgent l).straps = s.straps := rfl
@[simp] theorem State.setUrgent_restartAccepted (l : List SwitchNo) :
    (s.setUrgent l).restartAccepted = s.restartAccepted := rfl
@[simp] theorem State.setUrgent_ports (l : List SwitchNo) : (s.setUrgent l).ports = s.ports := rfl
@[simp] theorem State.setUrgent_events (l : List SwitchNo) : (s.setUrgent l).events = s.events := rfl
@[simp] theorem State.setUrgent_map (l : List SwitchNo) : (s.setUrgent l).map = s.map := rfl
@[simp] theorem State.setUrgent_mapValid (l : List SwitchNo) : (s.setUrgent l).mapValid = s.mapValid := rfl
@[simp] theorem State.setUrgent_cars (l : List SwitchNo) : (s.setUrgent l).cars = s.cars := rfl
@[simp] theorem State.setUrgent_handsets (l : List SwitchNo) : (s.setUrgent l).handsets = s.handsets := rfl
@[simp] theorem State.setUrgent_scanner (l : List SwitchNo) : (s.setUrgent l).scanner = s.scanner := rfl
@[simp] theorem State.setUrgent_seeks (l : List SwitchNo) : (s.setUrgent l).seeks = s.seeks := rfl
@[simp] theorem State.setUrgent_lists (l : List SwitchNo) : (s.setUrgent l).lists = s.lists := rfl
@[simp] theorem State.setUrgent_verdicts (l : List SwitchNo) : (s.setUrgent l).verdicts = s.verdicts := rfl
@[simp] theorem State.setUrgent_switches (l : List SwitchNo) : (s.setUrgent l).switches = s.switches := rfl
@[simp] theorem State.setUrgent_loop (l : List SwitchNo) :
    (s.setUrgent l).loop = { s.loop with urgent := l } := rfl
@[simp] theorem State.setUrgent_frames (l : List SwitchNo) : (s.setUrgent l).frames = s.frames := rfl
@[simp] theorem State.setUrgent_race (l : List SwitchNo) : (s.setUrgent l).race = s.race := rfl
@[simp] theorem State.setUrgent_railHold (l : List SwitchNo) : (s.setUrgent l).railHold = s.railHold := rfl
@[simp] theorem State.setUrgent_limits (l : List SwitchNo) : (s.setUrgent l).limits = s.limits := rfl
@[simp] theorem State.setUrgent_store (l : List SwitchNo) : (s.setUrgent l).store = s.store := rfl
@[simp] theorem State.setUrgent_generation (l : List SwitchNo) :
    (s.setUrgent l).generation = s.generation := rfl
@[simp] theorem State.setUrgent_memory (l : List SwitchNo) : (s.setUrgent l).memory = s.memory := rfl

/-! ### `raise` -/

@[simp] theorem raise_pending (e : Event) : (raise e s).pending = s.pending := rfl
@[simp] theorem raise_clock (e : Event) : (raise e s).clock = s.clock := rfl
@[simp] theorem raise_quarter (e : Event) : (raise e s).quarter = s.quarter := rfl
@[simp] theorem raise_picks (e : Event) : (raise e s).picks = s.picks := rfl
@[simp] theorem raise_resetHeld (e : Event) : (raise e s).resetHeld = s.resetHeld := rfl
@[simp] theorem raise_straps (e : Event) : (raise e s).straps = s.straps := rfl
@[simp] theorem raise_restartAccepted (e : Event) : (raise e s).restartAccepted = s.restartAccepted := rfl
@[simp] theorem raise_ports (e : Event) : (raise e s).ports = s.ports := rfl
@[simp] theorem raise_map (e : Event) : (raise e s).map = s.map := rfl
@[simp] theorem raise_mapValid (e : Event) : (raise e s).mapValid = s.mapValid := rfl
@[simp] theorem raise_cars (e : Event) : (raise e s).cars = s.cars := rfl
@[simp] theorem raise_handsets (e : Event) : (raise e s).handsets = s.handsets := rfl
@[simp] theorem raise_scanner (e : Event) : (raise e s).scanner = s.scanner := rfl
@[simp] theorem raise_seeks (e : Event) : (raise e s).seeks = s.seeks := rfl
@[simp] theorem raise_lists (e : Event) : (raise e s).lists = s.lists := rfl
@[simp] theorem raise_verdicts (e : Event) : (raise e s).verdicts = s.verdicts := rfl
@[simp] theorem raise_switches (e : Event) : (raise e s).switches = s.switches := rfl
@[simp] theorem raise_loop (e : Event) : (raise e s).loop = s.loop := rfl
@[simp] theorem raise_frames (e : Event) : (raise e s).frames = s.frames := rfl
@[simp] theorem raise_race (e : Event) : (raise e s).race = s.race := rfl
@[simp] theorem raise_railHold (e : Event) : (raise e s).railHold = s.railHold := rfl
@[simp] theorem raise_limits (e : Event) : (raise e s).limits = s.limits := rfl
@[simp] theorem raise_store (e : Event) : (raise e s).store = s.store := rfl
@[simp] theorem raise_generation (e : Event) : (raise e s).generation = s.generation := rfl
@[simp] theorem raise_memory (e : Event) : (raise e s).memory = s.memory := rfl

/-! ### `flagAllPorts` -/

@[simp] theorem flagAllPorts_pending (f : StickyFlags → StickyFlags) :
    (flagAllPorts f s).pending = s.pending := rfl
@[simp] theorem flagAllPorts_clock (f : StickyFlags → StickyFlags) : (flagAllPorts f s).clock = s.clock := rfl
@[simp] theorem flagAllPorts_quarter (f : StickyFlags → StickyFlags) :
    (flagAllPorts f s).quarter = s.quarter := rfl
@[simp] theorem flagAllPorts_picks (f : StickyFlags → StickyFlags) : (flagAllPorts f s).picks = s.picks := rfl
@[simp] theorem flagAllPorts_resetHeld (f : StickyFlags → StickyFlags) :
    (flagAllPorts f s).resetHeld = s.resetHeld := rfl
@[simp] theorem flagAllPorts_straps (f : StickyFlags → StickyFlags) :
    (flagAllPorts f s).straps = s.straps := rfl
@[simp] theorem flagAllPorts_restartAccepted (f : StickyFlags → StickyFlags) :
    (flagAllPorts f s).restartAccepted = s.restartAccepted := rfl
@[simp] theorem flagAllPorts_ports (f : StickyFlags → StickyFlags) : (flagAllPorts f s).ports = s.ports := rfl
@[simp] theorem flagAllPorts_map (f : StickyFlags → StickyFlags) : (flagAllPorts f s).map = s.map := rfl
@[simp] theorem flagAllPorts_mapValid (f : StickyFlags → StickyFlags) :
    (flagAllPorts f s).mapValid = s.mapValid := rfl
@[simp] theorem flagAllPorts_cars (f : StickyFlags → StickyFlags) : (flagAllPorts f s).cars = s.cars := rfl
@[simp] theorem flagAllPorts_handsets (f : StickyFlags → StickyFlags) :
    (flagAllPorts f s).handsets = s.handsets := rfl
@[simp] theorem flagAllPorts_scanner (f : StickyFlags → StickyFlags) :
    (flagAllPorts f s).scanner = s.scanner := rfl
@[simp] theorem flagAllPorts_seeks (f : StickyFlags → StickyFlags) : (flagAllPorts f s).seeks = s.seeks := rfl
@[simp] theorem flagAllPorts_lists (f : StickyFlags → StickyFlags) : (flagAllPorts f s).lists = s.lists := rfl
@[simp] theorem flagAllPorts_verdicts (f : StickyFlags → StickyFlags) :
    (flagAllPorts f s).verdicts = s.verdicts := rfl
@[simp] theorem flagAllPorts_switches (f : StickyFlags → StickyFlags) :
    (flagAllPorts f s).switches = s.switches := rfl
@[simp] theorem flagAllPorts_loop (f : StickyFlags → StickyFlags) : (flagAllPorts f s).loop = s.loop := rfl
@[simp] theorem flagAllPorts_frames (f : StickyFlags → StickyFlags) :
    (flagAllPorts f s).frames = s.frames := rfl
@[simp] theorem flagAllPorts_race (f : StickyFlags → StickyFlags) : (flagAllPorts f s).race = s.race := rfl
@[simp] theorem flagAllPorts_railHold (f : StickyFlags → StickyFlags) :
    (flagAllPorts f s).railHold = s.railHold := rfl
@[simp] theorem flagAllPorts_limits (f : StickyFlags → StickyFlags) :
    (flagAllPorts f s).limits = s.limits := rfl
@[simp] theorem flagAllPorts_store (f : StickyFlags → StickyFlags) : (flagAllPorts f s).store = s.store := rfl
@[simp] theorem flagAllPorts_generation (f : StickyFlags → StickyFlags) :
    (flagAllPorts f s).generation = s.generation := rfl
@[simp] theorem flagAllPorts_memory (f : StickyFlags → StickyFlags) :
    (flagAllPorts f s).memory = s.memory := rfl

end Sys2Proof.Machine
end

