-- ==== Sys2Proof/Laws/Footprints.lean ====
section
/-! SUPPORT. The footprint of every shared operation: the fields of the state that it can change, in one
equation each, so that a frame is read off and no operation is unfolded to prove one. -/

namespace Sys2Proof.Machine

/-! ### Ways to build footprints -/

/-- A fold keeps what each of its steps keeps. -/
theorem foldl_keeps {α : Type} (P : State → State → Prop) (refl : ∀ s, P s s)
    (trans : ∀ {s t u}, P s t → P t u → P s u) (op : State → α → State) (step : ∀ s a, P s (op s a)) :
    ∀ (l : List α) (s : State), P s (l.foldl op s)
  | [], s => refl s
  | a :: l, s => trans (step s a) (foldl_keeps P refl trans op step l (op s a))

/-! ### Events, the urgent list and switches -/

theorem raise_footprint (e : Event) (s : State) : raise e s = { s with events := (raise e s).events } := rfl

theorem flagAllPorts_footprint (f : StickyFlags → StickyFlags) (s : State) :
    flagAllPorts f s = { s with events := (flagAllPorts f s).events } := rfl

theorem joinUrgent_footprint (j : SwitchNo) (s : State) :
    joinUrgent j s = { s with loop := { s.loop with urgent := (joinUrgent j s).loop.urgent } } := by
  unfold joinUrgent; split <;> rfl

theorem leaveUrgent_footprint (j : SwitchNo) (s : State) :
    leaveUrgent j s = { s with loop := { s.loop with urgent := (leaveUrgent j s).loop.urgent } } := rfl

/-- The state `t` differs from `s` at most in the switches' runtime records, the reservation lists, the urgent
list and the events: what LCA and SWC do to each other. -/
def SwitchFootprint (s t : State) : Prop :=
  t = { s with switches := t.switches, lists := t.lists, events := t.events,
               loop := { s.loop with urgent := t.loop.urgent } }

theorem SwitchFootprint.refl (s : State) : SwitchFootprint s s := rfl

theorem SwitchFootprint.trans {s t u : State} (h : SwitchFootprint s t) (k : SwitchFootprint t u) :
    SwitchFootprint s u := by
  unfold SwitchFootprint at *
  rw [k, h]

theorem raise_switchFootprint (e : Event) (s : State) : SwitchFootprint s (raise e s) := rfl

theorem setList_switchFootprint (j : SwitchNo) (l : List Reservation) (s : State) :
    SwitchFootprint s (s.setList j l) := rfl

theorem modifySwitch_switchFootprint (j : SwitchNo) (f : SwitchRun → SwitchRun) (s : State) :
    SwitchFootprint s (s.modifySwitch j f) := rfl

theorem joinUrgent_switchFootprint (j : SwitchNo) (s : State) : SwitchFootprint s (joinUrgent j s) := by
  unfold joinUrgent; split <;> rfl

theorem leaveUrgent_switchFootprint (j : SwitchNo) (s : State) : SwitchFootprint s (leaveUrgent j s) := rfl

theorem commandPosition_switchFootprint (j : SwitchNo) (x : Position) (s : State) :
    SwitchFootprint s (commandPosition j x s) :=
  (modifySwitch_switchFootprint j _ s).trans (joinUrgent_switchFootprint j _)

theorem changeState_switchFootprint (j : SwitchNo) (x : SwitchState) (cause : SwitchCause) (s : State) :
    SwitchFootprint s (changeState j x cause s) := rfl

theorem throwRequest_switchFootprint (j : SwitchNo) (s : State) : SwitchFootprint s (throwRequest j s) := by
  unfold throwRequest
  split <;> first
    | exact .refl s
    | exact (commandPosition_switchFootprint j _ s).trans (changeState_switchFootprint j _ _ _)

theorem returnRequest_switchFootprint (j : SwitchNo) (s : State) : SwitchFootprint s (returnRequest j s) := by
  unfold returnRequest
  split <;> first
    | exact .refl s
    | exact (commandPosition_switchFootprint j _ s).trans (changeState_switchFootprint j _ _ _)

theorem returnIfEmpty_switchFootprint (j : SwitchNo) (s : State) : SwitchFootprint s (returnIfEmpty j s) := by
  unfold returnIfEmpty
  split
  · exact returnRequest_switchFootprint j s
  · exact .refl s

theorem revokeList_switchFootprint (cause : RevokeCause) (j : SwitchNo) (s : State) :
    SwitchFootprint s (revokeList cause j s) := by
  unfold revokeList
  split
  · exact .refl s
  · refine ((setList_switchFootprint j [] s).trans ?_).trans (returnRequest_switchFootprint j _)
    exact foldl_keeps SwitchFootprint .refl .trans (fun s (e : Reservation) => raise (.revoked e.car j cause) s)
      (fun _ _ => raise_switchFootprint _ _) _ _

theorem revokeAllLists_switchFootprint (s : State) : SwitchFootprint s (revokeAllLists s) :=
  foldl_keeps _ .refl .trans _ (fun s j => revokeList_switchFootprint .halt j s) switchNos s

theorem supersedeAt_switchFootprint (k : CarNo) (j : SwitchNo) (s : State) :
    SwitchFootprint s (supersedeAt k j s) := by
  unfold supersedeAt
  split
  · exact ((setList_switchFootprint j _ s).trans (raise_switchFootprint _ _)).trans
      (returnIfEmpty_switchFootprint j _)
  · exact .refl s

theorem supersede_switchFootprint (k : CarNo) (s : State) : SwitchFootprint s (supersede k s) :=
  foldl_keeps _ .refl .trans _ (fun s j => supersedeAt_switchFootprint k j s) switchNos s

theorem enterFault_switchFootprint (j : SwitchNo) (cause : SwitchCause) (s : State) :
    SwitchFootprint s (enterFault j cause s) := by
  unfold enterFault
  split
  · exact .refl s
  · exact (((modifySwitch_switchFootprint j _ s).trans (leaveUrgent_switchFootprint j _)).trans
      (changeState_switchFootprint j _ _ _)).trans (revokeList_switchFootprint _ j _)

theorem positionReport_switchFootprint (j : SwitchNo) (x : ReportedPosition) (s : State) :
    SwitchFootprint s (positionReport j x s) := by
  have command (y : Position) (z : State) := commandPosition_switchFootprint j y z
  have change (y : SwitchState) (c : SwitchCause) (z : State) := changeState_switchFootprint j y c z
  have cancel (z : State) : SwitchFootprint z (cancelDeadline j z) := modifySwitch_switchFootprint j _ z
  have seen := modifySwitch_switchFootprint j (fun r => { r with confirmed := confirmedBy x }) s
  unfold positionReport
  dsimp only
  refine seen.trans ?_
  generalize s.modifySwitch j (fun r => { r with confirmed := confirmedBy x }) = z
  cases z.switches[j].state <;> dsimp only <;> (try split) <;> (try split) <;> first
    | exact (command _ _).trans (change _ _ _)
    | exact (cancel _).trans (change _ _ _)
    | exact command _ _
    | exact cancel _
    | exact .refl _

theorem takePosition_switchFootprint (j : SwitchNo) (x : ReportedPosition) (s : State) :
    SwitchFootprint s (takePosition j x s) := by
  unfold takePosition
  dsimp only
  split
  · exact (positionReport_switchFootprint j x s).trans (leaveUrgent_switchFootprint j _)
  · exact positionReport_switchFootprint j x s

theorem carryOutGrant_switchFootprint (v : VerdictRecord) (s : State) :
    SwitchFootprint s (carryOutGrant v s) := by
  unfold carryOutGrant
  split
  · exact (setList_switchFootprint _ _ s).trans (throwRequest_switchFootprint _ _)
  · exact .refl s

theorem saturationReport_footprint (v : VerdictRecord) (s : State) :
    saturationReport v s = { s with events := (saturationReport v s).events } := by
  unfold saturationReport
  split
  · dsimp only
    split <;> rfl
  · rfl

/-! ### Detections -/

theorem takeDetection_footprint (k : CarNo) (q : Sensor) (t : Time) (s : State) :
    takeDetection k q t s =
      { s with cars := (takeDetection k q t s).cars, events := (takeDetection k q t s).events } := by
  unfold takeDetection; split <;> rfl

/-- The state `t` differs from `s` at most in what the handling of a detection or a miss can change: cars,
handsets, the queue, the reservation lists, the last-verdict records, the switches, the loop's node records
and urgent list, and the events. -/
def TrackFootprint (s t : State) : Prop :=
  t = { s with
    cars := t.cars, handsets := t.handsets, seeks := t.seeks, lists := t.lists, verdicts := t.verdicts,
    switches := t.switches, loop := { s.loop with nodes := t.loop.nodes, urgent := t.loop.urgent },
    events := t.events }

theorem TrackFootprint.refl (s : State) : TrackFootprint s s := rfl

theorem TrackFootprint.trans {s t u : State} (h : TrackFootprint s t) (k : TrackFootprint t u) :
    TrackFootprint s u := by
  unfold TrackFootprint at *
  rw [k, h]

theorem SwitchFootprint.track {s t : State} (h : SwitchFootprint s t) : TrackFootprint s t := by
  unfold SwitchFootprint at h
  unfold TrackFootprint
  rw [h]

theorem modifyCar_trackFootprint (c : CarNo) (f : Car → Car) (s : State) :
    TrackFootprint s (s.modifyCar c f) := rfl

theorem takeDetection_trackFootprint (k : CarNo) (q : Sensor) (t : Time) (s : State) :
    TrackFootprint s (takeDetection k q t s) := by
  unfold TrackFootprint
  rw [takeDetection_footprint]

theorem pairingGateDetection_trackFootprint (c : CarNo) (s : State) :
    TrackFootprint s (pairingGateDetection c s) := by
  unfold pairingGateDetection
  split
  · exact .refl s
  · split
    · rfl
    · exact .refl s

theorem handOnVerdict_trackFootprint (v : VerdictRecord) (s : State) :
    TrackFootprint s (handOnVerdict v s) := by
  have report (z : State) : TrackFootprint z (saturationReport v z) := by
    unfold TrackFootprint; rw [saturationReport_footprint]
  have keep : TrackFootprint s { s with verdicts := update s.verdicts v.switch fun _ => some v } := rfl
  exact ((keep.trans (raise_switchFootprint (.verdict v) _).track).trans (report _)).trans
    (carryOutGrant_switchFootprint v _).track

theorem settle_trackFootprint (k : CarNo) (j : SwitchNo) (t : Time) (s : State) :
    TrackFootprint s (settle k j t s) :=
  (supersede_switchFootprint k s).track.trans (handOnVerdict_trackFootprint _ _)

theorem entryDetection_trackFootprint (k : CarNo) (j : SwitchNo) (t : Time) (s : State) :
    TrackFootprint s (entryDetection k j t s) := by
  unfold entryDetection
  split
  · exact (modifyCar_trackFootprint k _ s).trans (settle_trackFootprint k j t _)
  · exact .refl s

theorem takePassage_trackFootprint (k : CarNo) (j : SwitchNo) (thrownExit : Bool) (s : State) :
    TrackFootprint s (takePassage k j thrownExit s) := by
  unfold takePassage
  split
  · dsimp only
    split
    · exact (setList_switchFootprint j _ s).track.trans (returnIfEmpty_switchFootprint j _).track
    · exact (((setList_switchFootprint j _ s).track.trans (modifyCar_trackFootprint k _ _)).trans
        (raise_switchFootprint _ _).track).trans (returnIfEmpty_switchFootprint j _).track
  · split
    · exact (raise_switchFootprint _ s).track
    · exact .refl s

theorem passage_trackFootprint (k : CarNo) (j : SwitchNo) (thrownExit : Bool) (s : State) :
    TrackFootprint s (passage k j thrownExit s) :=
  (modifySwitch_switchFootprint j _ s).track.trans (takePassage_trackFootprint k j thrownExit _)

theorem handOn_trackFootprint (k : CarNo) (q : Sensor) (t : Time) (s : State) :
    TrackFootprint s (handOn k q t s) := by
  unfold handOn
  split
  · split
    · exact entryDetection_trackFootprint k _ t s
    · exact .refl s
  · exact passage_trackFootprint k _ _ s
  · exact passage_trackFootprint k _ _ s
  · split
    · exact pairingGateDetection_trackFootprint k s
    · exact .refl s
  · exact .refl s

theorem takeRecord_trackFootprint (a : NodeNo) (s : State) (d : Detection) :
    TrackFootprint s (takeRecord a s d) := by
  unfold takeRecord
  split
  · dsimp only
    split
    · exact (takeDetection_trackFootprint _ _ _ s).trans (handOn_trackFootprint _ _ _ _)
    · exact (raise_switchFootprint _ s).track
  · exact (raise_switchFootprint _ s).track

theorem takeRecords_trackFootprint (a : NodeNo) (r : NodeReply) (s : State) :
    TrackFootprint s (takeRecords a r s) := by
  have records : TrackFootprint s ((oldestFirst r.detections).foldl (takeRecord a) s) :=
    foldl_keeps _ .refl .trans _ (takeRecord_trackFootprint a) _ s
  unfold takeRecords
  dsimp only
  split
  · exact records.trans (raise_switchFootprint _ _).track
  · exact records

theorem modifyNode_trackFootprint (a : NodeNo) (f : NodeRecord → NodeRecord) (s : State) :
    TrackFootprint s (s.modifyNode a f) := rfl

theorem tellNews_trackFootprint (a : NodeNo) (news : NodeNews) (s : State) :
    TrackFootprint s (tellNews a news s) := by
  unfold tellNews
  split
  · exact .refl s
  · unfold nodeFaults
    dsimp only
    split
    · exact (raise_switchFootprint _ s).track.trans (enterFault_switchFootprint _ _ _).track
    · exact (raise_switchFootprint _ s).track
  · exact (raise_switchFootprint _ s).track

theorem takeAnswer_trackFootprint (a : NodeNo) (s : State) : TrackFootprint s (takeAnswer a s) :=
  (modifyNode_trackFootprint a _ s).trans (tellNews_trackFootprint a _ _)

theorem takeMiss_trackFootprint (a : NodeNo) (s : State) : TrackFootprint s (takeMiss a s) :=
  (modifyNode_trackFootprint a _ s).trans (tellNews_trackFootprint a _ _)

theorem takeReply_trackFootprint (a : NodeNo) (r : NodeReply) (s : State) :
    TrackFootprint s (takeReply a r s) := by
  unfold takeReply
  dsimp only
  refine (takeAnswer_trackFootprint a s).trans (TrackFootprint.trans ?_ (takeRecords_trackFootprint a r _))
  split
  · exact (takePosition_switchFootprint _ _ _).track
  · exact .refl _

/-! ### The loop -/

theorem beginRound_footprint (s : State) : beginRound s = { s with loop := (beginRound s).loop } := by
  unfold beginRound; split <;> rfl

theorem arbitrate_footprint (s : State) : arbitrate s = { s with loop := (arbitrate s).loop } := by
  unfold arbitrate
  split
  · split
    · rfl
    · exact beginRound_footprint s
  · exact beginRound_footprint s

theorem wakeLoop_footprint (s : State) : wakeLoop s = { s with loop := (wakeLoop s).loop } := by
  unfold wakeLoop
  split
  · exact arbitrate_footprint s
  · rfl

theorem moveServed_footprint (x : Exchange) (s : State) :
    moveServed x s = { s with loop := { s.loop with urgent := (moveServed x s).loop.urgent } } := by
  unfold moveServed
  split
  · split <;> rfl
  · rfl

/-- The state `t` differs from `s` at most in the switches' runtime records and the loop: what a change of a
used field can move. -/
def UseFootprint (s t : State) : Prop := t = { s with switches := t.switches, loop := t.loop }

theorem UseFootprint.refl (s : State) : UseFootprint s s := rfl

theorem UseFootprint.trans {s t u : State} (h : UseFootprint s t) (k : UseFootprint t u) : UseFootprint s u := by
  unfold UseFootprint at *
  rw [k, h]

theorem modifySwitch_useFootprint (j : SwitchNo) (f : SwitchRun → SwitchRun) (s : State) :
    UseFootprint s (s.modifySwitch j f) := rfl

theorem joinUrgent_useFootprint (j : SwitchNo) (s : State) : UseFootprint s (joinUrgent j s) := by
  unfold joinUrgent; split <;> rfl

theorem nodeEnters_useFootprint (a : NodeNo) (s : State) : UseFootprint s (nodeEnters a s) := rfl

theorem nodeLeaves_useFootprint (a : NodeNo) (s : State) : UseFootprint s (nodeLeaves a s) := rfl

theorem followSwitchUse_useFootprint (before after : Bool) (j : SwitchNo) (s : State) :
    UseFootprint s (followSwitchUse before after j s) := by
  unfold followSwitchUse
  split
  · exact .refl s
  · split
    · exact (((nodeEnters_useFootprint _ s).trans (modifySwitch_useFootprint j _ _)).trans
        (modifySwitch_useFootprint j _ _)).trans (joinUrgent_useFootprint j _)
    · exact ((nodeLeaves_useFootprint _ s).trans (modifySwitch_useFootprint j _ _)).trans rfl

theorem followGateUse_footprint (before after : Bool) (g : Fin 16) (s : State) :
    followGateUse before after g s = { s with loop := (followGateUse before after g s).loop } := by
  unfold followGateUse
  split
  · rfl
  · split <;> rfl

/-! ### Handsets and pairing -/

theorem armRequest_footprint (h : HandsetNo) (c : CarNo) (s : State) :
    armRequest h c s = { s with cars := (armRequest h c s).cars } := by
  unfold armRequest; split <;> rfl

/-- The state `t` differs from `s` at most in cars, handsets and events: what a handset's results and samples
can change. -/
def HandsetFootprint (s t : State) : Prop :=
  t = { s with cars := t.cars, handsets := t.handsets, events := t.events }

theorem HandsetFootprint.refl (s : State) : HandsetFootprint s s := rfl

theorem HandsetFootprint.trans {s t u : State} (h : HandsetFootprint s t) (k : HandsetFootprint t u) :
    HandsetFootprint s u := by
  unfold HandsetFootprint at *
  rw [k, h]

theorem modifyHandset_handsetFootprint (h : HandsetNo) (f : Handset → Handset) (s : State) :
    HandsetFootprint s (s.modifyHandset h f) := rfl

theorem raise_handsetFootprint (e : Event) (s : State) : HandsetFootprint s (raise e s) := rfl

theorem armRequest_handsetFootprint (h : HandsetNo) (c : CarNo) (s : State) :
    HandsetFootprint s (armRequest h c s) := by
  unfold armRequest; split <;> rfl

theorem takeButton_handsetFootprint (h : HandsetNo) (level : Bool) (s : State) :
    HandsetFootprint s (takeButton h level s) := by
  unfold takeButton
  dsimp only
  split
  · exact .refl s
  · split
    · split
      · exact (modifyHandset_handsetFootprint h _ s).trans (armRequest_handsetFootprint h _ _)
      · exact modifyHandset_handsetFootprint h _ s
      · exact modifyHandset_handsetFootprint h _ s
    · exact modifyHandset_handsetFootprint h _ s

theorem debounceButton_handsetFootprint (h : HandsetNo) (sample : Bool) (s : State) :
    HandsetFootprint s (debounceButton h sample s) := by
  unfold debounceButton
  dsimp only
  refine HandsetFootprint.trans ?_ (modifyHandset_handsetFootprint h _ _)
  split
  · exact takeButton_handsetFootprint h sample s
  · exact .refl s

theorem takeWiredResult_handsetFootprint (h : HandsetNo) (raw : Nat) (sample : Bool) (s : State) :
    HandsetFootprint s (takeWiredResult h raw sample s) := by
  unfold takeWiredResult
  dsimp only
  refine (modifyHandset_handsetFootprint h (fun r => { r with lastSample := s.clock }) s).trans ?_
  have change (f : Handset → Handset) (z : State) := modifyHandset_handsetFootprint h f z
  have button (z : State) := debounceButton_handsetFootprint h sample z
  split <;> split <;> (try split) <;> first
    | exact (change _ _).trans (button _)
    | exact (change _ _).trans (raise_handsetFootprint _ _)
    | exact change _ _

theorem takeSample_handsetFootprint (h : HandsetNo) (throttle : Nat) (pressed : Bool) (s : State) :
    HandsetFootprint s (takeSample h throttle pressed s) := by
  unfold takeSample
  dsimp only
  refine (modifyHandset_handsetFootprint h (fun r => { r with
    lastSample := s.clock, holdEnd := some (later s.clock 2500), lostTime := some (later s.clock 5000) }) s).trans ?_
  refine HandsetFootprint.trans ?_ (takeButton_handsetFootprint h pressed _)
  refine HandsetFootprint.trans ?_ (modifyHandset_handsetFootprint h _ _)
  split
  · exact .refl _
  · exact (modifyHandset_handsetFootprint h _ _).trans (raise_handsetFootprint _ _)

theorem takeSamples_handsetFootprint :
    ∀ (samples : List Byte) (s : State), HandsetFootprint s (takeSamples samples s)
  | h :: throttle :: pressed :: rest, s => by
    rw [takeSamples]
    refine HandsetFootprint.trans ?_ (takeSamples_handsetFootprint rest _)
    split
    · exact takeSample_handsetFootprint _ _ _ _
    · exact .refl s
  | [], s => .refl s
  | [_], s => .refl s
  | [_, _], s => .refl s

/-- The state `t` differs from `s` at most in cars, handsets, the queue and the events: what PRU can change. -/
def PairingFootprint (s t : State) : Prop :=
  t = { s with cars := t.cars, handsets := t.handsets, seeks := t.seeks, events := t.events }

theorem makeBinding_pairingFootprint (h : HandsetNo) (c : CarNo) (x : BindSource) (s : State) :
    PairingFootprint s (makeBinding h c x s) := rfl

theorem dissolve_pairingFootprint (h : HandsetNo) (c : CarNo) (x : UnbindCause) (s : State) :
    PairingFootprint s (dissolve h c x s) := rfl

theorem joinQueue_pairingFootprint (h : HandsetNo) (s : State) : PairingFootprint s (joinQueue h s) := rfl

theorem leaveQueue_pairingFootprint (h : HandsetNo) (s : State) : PairingFootprint s (leaveQueue h s) := rfl

theorem raise_pairingFootprint (e : Event) (s : State) : PairingFootprint s (raise e s) := rfl

theorem PairingFootprint.trans {s t u : State} (h : PairingFootprint s t) (k : PairingFootprint t u) :
    PairingFootprint s u := by
  unfold PairingFootprint at *
  rw [k, h]

theorem dissolve_joinQueue_pairingFootprint (h : HandsetNo) (c : CarNo) (s : State) :
    PairingFootprint s (joinQueue h (dissolve h c .reseek s)) :=
  (dissolve_pairingFootprint h c .reseek s).trans (joinQueue_pairingFootprint h _)

theorem seekRequest_pairingFootprint (h : HandsetNo) (s : State) : PairingFootprint s (seekRequest h s) := by
  unfold seekRequest
  cases seekRefusal h s with
  | some reason => exact raise_pairingFootprint _ s
  | none =>
    cases s.handsets[h].pairing with
    | bound c => exact dissolve_joinQueue_pairingFootprint h c s
    | idle => exact joinQueue_pairingFootprint h s
    | seeking => exact joinQueue_pairingFootprint h s

/-! ### Race states, frames and the scanner -/

/-- A transition to HALT is the change of state, the intents cleared, and then at most what revoking lists can
do. -/
theorem haltRace_switchFootprint (cause : RaceCause) (s : State) :
    SwitchFootprint (clearIntents (changeRace .halt cause s)) (haltRace cause s) :=
  revokeAllLists_switchFootprint _

theorem publishFrame_footprint (s : State) :
    publishFrame s = { s with frames := (publishFrame s).frames, cars := (publishFrame s).cars } := rfl

theorem applyScan_footprint (setCode intervalCode : Nat) (s : State) :
    applyScan setCode intervalCode s = { s with
      scanner := (restartScanner setCode intervalCode s).scanner
      handsets := (applyScan setCode intervalCode s).handsets
      events := (applyScan setCode intervalCode s).events } := by
  have leave (z : State) (h : HandsetNo) :
      leaveScanSet h z = { z with handsets := (leaveScanSet h z).handsets, events := (leaveScanSet h z).events } := by
    unfold leaveScanSet; dsimp only; split <;> rfl
  exact foldl_keeps (fun s t => t = { s with handsets := t.handsets, events := t.events }) (fun _ => rfl)
    (fun h k => by rw [k, h]) _ leave (outsideScanSet setCode) (restartScanner setCode intervalCode s)

/-! ### A save, and bytes clocked into a port -/

theorem writeContents_footprint (left : Nat) (s : State) :
    writeContents left s = { s with memory := (writeContents left s).memory } := rfl

theorem confirmWrite_footprint (p : SaveProgress) (s : State) :
    confirmWrite p s = { s with
      store := (confirmWrite p s).store, memory := (confirmWrite p s).memory
      generation := (confirmWrite p s).generation, events := (confirmWrite p s).events } := by
  unfold confirmWrite; split <;> rfl

theorem failSave_footprint (s : State) :
    failSave s = { s with store := .idle, events := (failSave s).events } := rfl

/-- The last contents write leaves the whole image in the memory, but for the marker. -/
theorem writeContents_last (s : State) : (writeContents 0 s).memory = { imageOf s with marker := false } := rfl

/-- A byte clocked before 16 fillers changes its own port's state alone. -/
theorem clockPort_early (p : Port) (b : Byte) (s : State) (h : (s.ports.get p).filler < 16) :
    clockPort p b s = s.modifyPort p (clockByte b) := by
  dsimp only [clockPort]
  rw [if_neg fun x => absurd x.2 (Nat.not_le.mpr h)]

/-- A byte clocked outside TAKING changes its own port's state alone. -/
theorem clockPort_notTaking (p : Port) (b : Byte) (s : State) (h : (s.ports.get p).phase ≠ .taking) :
    clockPort p b s = s.modifyPort p (clockByte b) := by
  dsimp only [clockPort]
  rw [if_neg fun x => h x.1]

/-- The byte after 16 fillers finds the ended frame taken. -/
theorem clockPort_late (p : Port) (b : Byte) (s : State) (h : (s.ports.get p).phase = .taking)
    (n : 16 ≤ (s.ports.get p).filler) :
    clockPort p b s = (takeEndedFrame p s).modifyPort p (clockByte b) := by
  dsimp only [clockPort]
  rw [if_pos ⟨h, n⟩]

end Sys2Proof.Machine
end

