-- ==== Sys2Proof/Laws/PerInstr.lean ====
section
/-! SUPPORT. The operand ranges of each command, command by command: what well-formedness says in the
manual's own numbers. -/

namespace Sys2Proof.Laws.Ranges

/-- The operands of a command lie in the ranges the manual gives them. -/
def inRange (i : Instr) : Prop :=
  match i with
  | .holdEnd h | .lostTime h => h.val ∈ List.range' 8 8
  | .replyReceived r => ∀ d ∈ r.detections, d.carId ∈ List.range 16
  | _ => True

/-- A command is well formed exactly when its operands lie in their ranges. -/
def Statement (i : Instr) : Prop := i.wellFormed = true ↔ inRange i

theorem chipSelectFall : ∀ p, Statement (.chipSelectFall p) := fun _ => ⟨fun _ => trivial, fun _ => rfl⟩

theorem chipSelectRise : ∀ p, Statement (.chipSelectRise p) := fun _ => ⟨fun _ => trivial, fun _ => rfl⟩

theorem unknownRequest : ∀ p, Statement (.unknownRequest p) := fun _ => ⟨fun _ => trivial, fun _ => rfl⟩

theorem identify : ∀ p, Statement (.identify p) := fun _ => ⟨fun _ => trivial, fun _ => rfl⟩

theorem status : ∀ p, Statement (.status p) := fun _ => ⟨fun _ => trivial, fun _ => rfl⟩

theorem readEvents : ∀ p, Statement (.readEvents p) := fun _ => ⟨fun _ => trivial, fun _ => rfl⟩

theorem setEventMask : ∀ p, Statement (.setEventMask p) := fun _ => ⟨fun _ => trivial, fun _ => rfl⟩

theorem clearFlags : ∀ p, Statement (.clearFlags p) := fun _ => ⟨fun _ => trivial, fun _ => rfl⟩

theorem clearQueue : ∀ p, Statement (.clearQueue p) := fun _ => ⟨fun _ => trivial, fun _ => rfl⟩

theorem start : ∀ p, Statement (.start p) := fun _ => ⟨fun _ => trivial, fun _ => rfl⟩

theorem caution : ∀ p, Statement (.caution p) := fun _ => ⟨fun _ => trivial, fun _ => rfl⟩

theorem clearCaution : ∀ p, Statement (.clearCaution p) := fun _ => ⟨fun _ => trivial, fun _ => rfl⟩

theorem halt : ∀ p, Statement (.halt p) := fun _ => ⟨fun _ => trivial, fun _ => rfl⟩

theorem resume : ∀ p, Statement (.resume p) := fun _ => ⟨fun _ => trivial, fun _ => rfl⟩

theorem setup : ∀ p, Statement (.setup p) := fun _ => ⟨fun _ => trivial, fun _ => rfl⟩

theorem railFault : ∀ p, Statement (.railFault p) := fun _ => ⟨fun _ => trivial, fun _ => rfl⟩

theorem railClear : ∀ p, Statement (.railClear p) := fun _ => ⟨fun _ => trivial, fun _ => rfl⟩

theorem writeSegment : ∀ p, Statement (.writeSegment p) := fun _ => ⟨fun _ => trivial, fun _ => rfl⟩

theorem readSegment : ∀ p, Statement (.readSegment p) := fun _ => ⟨fun _ => trivial, fun _ => rfl⟩

theorem writeSwitch : ∀ p, Statement (.writeSwitch p) := fun _ => ⟨fun _ => trivial, fun _ => rfl⟩

theorem readSwitch : ∀ p, Statement (.readSwitch p) := fun _ => ⟨fun _ => trivial, fun _ => rfl⟩

theorem writeGate : ∀ p, Statement (.writeGate p) := fun _ => ⟨fun _ => trivial, fun _ => rfl⟩

theorem readGate : ∀ p, Statement (.readGate p) := fun _ => ⟨fun _ => trivial, fun _ => rfl⟩

theorem setPairingGate : ∀ p, Statement (.setPairingGate p) := fun _ => ⟨fun _ => trivial, fun _ => rfl⟩

theorem validateMap : ∀ p, Statement (.validateMap p) := fun _ => ⟨fun _ => trivial, fun _ => rfl⟩

theorem writeProfile : ∀ p, Statement (.writeProfile p) := fun _ => ⟨fun _ => trivial, fun _ => rfl⟩

theorem readCar : ∀ p, Statement (.readCar p) := fun _ => ⟨fun _ => trivial, fun _ => rfl⟩

theorem writeCalibration : ∀ p, Statement (.writeCalibration p) := fun _ => ⟨fun _ => trivial, fun _ => rfl⟩

theorem setScan : ∀ p, Statement (.setScan p) := fun _ => ⟨fun _ => trivial, fun _ => rfl⟩

theorem readRaw : ∀ p, Statement (.readRaw p) := fun _ => ⟨fun _ => trivial, fun _ => rfl⟩

theorem readHandset : ∀ p, Statement (.readHandset p) := fun _ => ⟨fun _ => trivial, fun _ => rfl⟩

theorem postSamples : ∀ p, Statement (.postSamples p) := fun _ => ⟨fun _ => trivial, fun _ => rfl⟩

theorem bind : ∀ p, Statement (.bind p) := fun _ => ⟨fun _ => trivial, fun _ => rfl⟩

theorem unbind : ∀ p, Statement (.unbind p) := fun _ => ⟨fun _ => trivial, fun _ => rfl⟩

theorem readPairing : ∀ p, Statement (.readPairing p) := fun _ => ⟨fun _ => trivial, fun _ => rfl⟩

theorem lockSwitch : ∀ p, Statement (.lockSwitch p) := fun _ => ⟨fun _ => trivial, fun _ => rfl⟩

theorem unlockSwitch : ∀ p, Statement (.unlockSwitch p) := fun _ => ⟨fun _ => trivial, fun _ => rfl⟩

theorem clearSwitch : ∀ p, Statement (.clearSwitch p) := fun _ => ⟨fun _ => trivial, fun _ => rfl⟩

theorem readNode : ∀ p, Statement (.readNode p) := fun _ => ⟨fun _ => trivial, fun _ => rfl⟩

theorem fetchFrame : ∀ p, Statement (.fetchFrame p) := fun _ => ⟨fun _ => trivial, fun _ => rfl⟩

theorem setCycleTrim : ∀ p, Statement (.setCycleTrim p) := fun _ => ⟨fun _ => trivial, fun _ => rfl⟩

theorem setLimits : ∀ p, Statement (.setLimits p) := fun _ => ⟨fun _ => trivial, fun _ => rfl⟩

theorem saveImage : ∀ p, Statement (.saveImage p) := fun _ => ⟨fun _ => trivial, fun _ => rfl⟩

theorem loadImage : ∀ p, Statement (.loadImage p) := fun _ => ⟨fun _ => trivial, fun _ => rfl⟩

theorem restart : ∀ p, Statement (.restart p) := fun _ => ⟨fun _ => trivial, fun _ => rfl⟩

theorem resetPinAssert : Statement (.resetPinAssert) := ⟨fun _ => trivial, fun _ => rfl⟩

theorem powerOnReset : ∀ straps, Statement (.powerOnReset straps) := fun _ => ⟨fun _ => trivial, fun _ => rfl⟩

theorem intervalTimerExpiry : Statement (.intervalTimerExpiry) := ⟨fun _ => trivial, fun _ => rfl⟩

theorem roundResult : ∀ ch raw pressed, Statement (.roundResult ch raw pressed) := fun _ _ _ => ⟨fun _ => trivial, fun _ => rfl⟩

theorem holdEnd : ∀ h, Statement (.holdEnd h) := by
  intro h
  simp only [Statement, inRange, Instr.wellFormed, decide_eq_true_eq, List.mem_range'_1]
  omega

theorem lostTime : ∀ h, Statement (.lostTime h) := by
  intro h
  simp only [Statement, inRange, Instr.wellFormed, decide_eq_true_eq, List.mem_range'_1]
  omega

theorem holdTimerExpiry : ∀ h, Statement (.holdTimerExpiry h) := fun _ => ⟨fun _ => trivial, fun _ => rfl⟩

theorem seekTimerExpiry : ∀ h, Statement (.seekTimerExpiry h) := fun _ => ⟨fun _ => trivial, fun _ => rfl⟩

theorem intentExpiry : ∀ c, Statement (.intentExpiry c) := fun _ => ⟨fun _ => trivial, fun _ => rfl⟩

theorem ageExpiry : ∀ c, Statement (.ageExpiry c) := fun _ => ⟨fun _ => trivial, fun _ => rfl⟩

theorem staleExpiry : ∀ j c, Statement (.staleExpiry j c) := fun _ _ => ⟨fun _ => trivial, fun _ => rfl⟩

theorem deadlineExpiry : ∀ j, Statement (.deadlineExpiry j) := fun _ => ⟨fun _ => trivial, fun _ => rfl⟩

theorem cycleEnd : Statement (.cycleEnd) := ⟨fun _ => trivial, fun _ => rfl⟩

theorem pollSent : Statement (.pollSent) := ⟨fun _ => trivial, fun _ => rfl⟩

theorem replyReceived : ∀ r, Statement (.replyReceived r) := by
  intro r
  simp [Statement, inRange, Instr.wellFormed, Detection.wellFormed]

theorem replyTimeout : Statement (.replyTimeout) := ⟨fun _ => trivial, fun _ => rfl⟩

theorem saveWriteConfirm : Statement (.saveWriteConfirm) := ⟨fun _ => trivial, fun _ => rfl⟩

theorem saveWriteTimeout : Statement (.saveWriteTimeout) := ⟨fun _ => trivial, fun _ => rfl⟩

theorem loadComplete : Statement (.loadComplete) := ⟨fun _ => trivial, fun _ => rfl⟩

theorem masterSendsByte : ∀ p b, Statement (.masterSendsByte p b) := fun _ _ => ⟨fun _ => trivial, fun _ => rfl⟩

theorem setRaceStateBadTarget : ∀ p, Statement (.setRaceStateBadTarget p) := fun _ => ⟨fun _ => trivial, fun _ => rfl⟩

end Sys2Proof.Laws.Ranges
end

