-- ==== Sys2Proof/Laws/Tables.lean ====
section
/-! SUPPORT. Reading tables and port records back after an update. -/

namespace Sys2Proof.Machine

/-! ### Tables -/

@[simp] theorem update_same {α : Type} {n : Nat} (v : Vector α n) (i : Fin n) (f : α → α) :
    (update v i f)[i] = f v[i] := by
  simp [update]

theorem update_other {α : Type} {n : Nat} (v : Vector α n) {i k : Fin n} (f : α → α) (h : k ≠ i) :
    (update v i f)[k] = v[k] := by
  simp only [update, Fin.getElem_fin]
  exact Vector.getElem_set_ne _ _ fun e => h (Fin.ext e.symm)

/-- The entry of a table after one was changed. -/
theorem update_get {α : Type} {n : Nat} (v : Vector α n) (i k : Fin n) (f : α → α) :
    (update v i f)[k] = if k = i then f v[k] else v[k] := by
  split
  · next h => subst h; exact update_same v k f
  · next h => exact update_other v f h

@[simp] theorem updateAll_get {α β : Type} {n : Nat} (v : Vector α n) (f : Fin n → α → β) (i : Fin n) :
    (updateAll v f)[i] = f i v[i] := by
  simp [updateAll]

theorem update_eq_set {α : Type} {n : Nat} (v : Vector α n) (i : Fin n) (f : α → α) :
    update v i f = v.set i (f v[i]) := rfl

/-- Two changes of one entry are one. -/
theorem update_update {α : Type} {n : Nat} (v : Vector α n) (i : Fin n) (f g : α → α) :
    update (update v i f) i g = update v i fun x => g (f x) := by
  simp [update]

/-- Two tables that agree entry by entry are equal. -/
theorem table_ext {α : Type} {n : Nat} {v w : Vector α n} (h : ∀ i : Fin n, v[i] = w[i]) : v = w :=
  Vector.ext fun i hi => h ⟨i, hi⟩

/-! ### Ports -/

@[simp] theorem PerPort.get_update_same {α : Type} (x : PerPort α) (p : Port) (f : α → α) :
    (x.update p f).get p = f (x.get p) := by
  cases p <;> rfl

theorem PerPort.get_update_other {α : Type} (x : PerPort α) {p q : Port} (f : α → α) (h : q ≠ p) :
    (x.update p f).get q = x.get q := by
  cases p <;> cases q <;> first | rfl | exact absurd rfl h

/-- The entry of a port after one port's was changed. -/
theorem PerPort.get_update {α : Type} (x : PerPort α) (p q : Port) (f : α → α) :
    (x.update p f).get q = if q = p then f (x.get q) else x.get q := by
  cases p <;> cases q <;> rfl

@[simp] theorem PerPort.get_map {α : Type} (x : PerPort α) (f : α → α) (p : Port) :
    (x.map f).get p = f (x.get p) := by
  cases p <;> rfl

@[simp] theorem PerPort.update_update {α : Type} (x : PerPort α) (p : Port) (f g : α → α) :
    (x.update p f).update p g = x.update p fun y => g (f y) := by
  cases p <;> rfl

theorem PerPort.ext_get {α : Type} {x y : PerPort α} (h : ∀ p, x.get p = y.get p) : x = y := by
  have h1 := h .base
  have h2 := h .console
  have h3 := h .radio
  cases x; cases y
  simp_all [PerPort.get]

/-! ### All numbers of a kind -/

@[simp] theorem mem_carNos (c : CarNo) : c ∈ carNos := List.mem_finRange c

@[simp] theorem mem_handsetNos (h : HandsetNo) : h ∈ handsetNos := List.mem_finRange h

@[simp] theorem mem_switchNos (j : SwitchNo) : j ∈ switchNos := List.mem_finRange j

@[simp] theorem mem_nodeNos (a : NodeNo) : a ∈ nodeNos := List.mem_finRange a

theorem switchNos_nodup : switchNos.Nodup := List.nodup_finRange 24

/-! ### Counts -/

theorem bump_le {cap n : Nat} (h : n ≤ cap) : bump cap n ≤ cap := by
  unfold bump
  split <;> omega

end Sys2Proof.Machine
end

