-- ==== Sys2Proof/Laws/Requests.lean ====
section
/-! SUPPORT. Serving a request, once and for all: what an ended frame is answered with, and the round trips of
the fields of a body. -/

namespace Sys2Proof.Machine

/-! ### Fields of a body (R181) -/

@[simp] theorem byte_toNat {n : Nat} (h : n ≤ 255) : (byte n).toNat = n := by
  simp only [byte, BitVec.toNat_ofNat]
  omega

@[simp] theorem byte_ofToNat (b : Byte) : byte b.toNat = b := by simp [byte]

@[simp] theorem number2_bytes {n : Nat} (h : n ≤ 65535) : number2 (byte n) (byte (n / 256)) = n := by
  simp only [number2, byte, BitVec.toNat_ofNat]
  omega

@[simp] theorem isYes_yesNo (b : Bool) : isYes (yesNo b) = b := by cases b <;> rfl

theorem numbered_byte {n k : Nat} (hn : n ≤ 256) (h : k < n) : numbered n (byte k) = some ⟨k, h⟩ := by
  have hk : (byte k).toNat = k := byte_toNat (by omega)
  simp [numbered, hk, h]

theorem numbered_none {n k : Nat} (hk : k ≤ 255) (h : n ≤ k) : numbered n (byte k) = none := by
  simp only [numbered, byte_toNat hk]
  exact dif_neg (by omega)

/-- A one-byte number below FFh, or NONE, reads back. -/
theorem numberOrNone_byteOrNone {n : Option Nat} (h : n.all (· ≤ 254) = true) :
    numberOrNone (byteOrNone n) = n := by
  cases n with
  | none => rfl
  | some n =>
    have hn : n ≤ 254 := by simpa using h
    have ht : (byte n).toNat = n := byte_toNat (by omega)
    have hf : byte n ≠ 0xFF := fun e => by
      have := congrArg BitVec.toNat e
      rw [ht] at this
      simp at this
      omega
    simp only [numberOrNone, byteOrNone, if_neg hf, ht]

/-! ### Replies -/

/-- Entering REPLYING with a composed reply is the state with that reply. -/
theorem enterReplying_eq (p : Port) (r : Reply) (s : State) :
    enterReplying p r s = withReply p r.status.code r.body s := rfl

theorem withReply_eq (p : Port) (status : Byte) (body : List Byte) (s : State) :
    withReply p status body s = { s with ports := (withReply p status body s).ports } := rfl

@[simp] theorem withReply_reply (p : Port) (status : Byte) (body : List Byte) (s : State) :
    ((withReply p status body s).ports.get p).reply =
      some { bytes := 0xA5 :: status :: byte body.length :: body, sent := 0 } := by
  simp [withReply]

/-! ### Serving -/

theorem FrameEnded.endedFrame {p : Port} {code : Byte} {body : List Byte} {s : State}
    (h : FrameEnded p code body s) :
    endedFrame p s = some { code := code, length := some (byte body.length), body := body } := by
  simp [Machine.endedFrame, h.taking, h.frame]

/-- The frame of a request that has ended whole passes R180's length limit, so it is turned away only for the
catalogue's length, a reserved bit or the role. -/
theorem FrameEnded.check {p : Port} {code : Byte} {body : List Byte} {s : State} (h : FrameEnded p code body s)
    (x : Request) (r : Role) :
    x.check r { code := code, length := some (byte body.length), body := body } =
      if !x.lengthFits body then some .format
      else if x.reservedSet body then some .format
      else if !x.allows r then some .role
      else none := by
  have hb : (byte body.length).toNat = body.length := byte_toNat (by have := h.short; omega)
  have hl : ¬60 < body.length := by have := h.short; omega
  simp [Request.check, hb, hl]

/-- A request whose frame has ended and passes its checks is answered by its owner. -/
theorem serve_owner {x : Request} {p : Port} {owner : List Byte → State → State × Reply} {body : List Byte}
    {s : State} (h : FrameEnded p x.code body s)
    (owns : x.owns { code := x.code, length := some (byte body.length), body := body } = true)
    (fits : x.lengthFits body = true) (clear : x.reservedSet body = false)
    (allowed : x.allows (portRole p) = true) :
    serve x p owner s =
      .next (withReply p (owner body s).2.status.code (owner body s).2.body (owner body s).1) := by
  simp [serve, whenRunning, h.running, h.endedFrame, owns, answerFrame, h.check, fits, clear, allowed,
    enterReplying_eq]

/-- A request whose frame has ended and fails a check is answered with that check's status, and nothing else
changes. -/
theorem serve_turned_away {x : Request} {p : Port} {owner : List Byte → State → State × Reply} {f : Frame}
    {s : State} {status : Status} (running : s.resetHeld = false) (ended : endedFrame p s = some f)
    (owns : x.owns f = true) (fails : x.check (portRole p) f = some status) :
    serve x p owner s = .next (withReply p status.code [] s) := by
  simp [serve, whenRunning, running, ended, owns, answerFrame, fails, enterReplying_eq, Reply.bare]

/-- Everything a request can do: nothing, or an answer to an ended frame of its own. -/
theorem serve_cases {x : Request} {p : Port} {owner : List Byte → State → State × Reply} {s t : State}
    (h : serve x p owner s = .next t) :
    t = s ∨ (s.resetHeld = false ∧ ∃ f, endedFrame p s = some f ∧ x.owns f = true ∧
      ((∃ status, x.check (portRole p) f = some status ∧ t = withReply p status.code [] s) ∨
        (x.check (portRole p) f = none ∧
          t = withReply p (owner f.body s).2.status.code (owner f.body s).2.body (owner f.body s).1))) := by
  simp only [serve, whenRunning, Host.Outcome.next.injEq] at h
  split at h
  · exact .inl h.symm
  · next hr =>
    split at h
    · exact .inl h.symm
    · next f hf =>
      split at h
      · next ho =>
        refine .inr ⟨by simpa using hr, f, hf, ho, ?_⟩
        simp only [answerFrame] at h
        split at h
        · next status hc => exact .inl ⟨status, hc, by simpa [enterReplying_eq, Reply.bare] using h.symm⟩
        · next hc => exact .inr ⟨hc, by simpa [enterReplying_eq] using h.symm⟩
      · exact .inl h.symm

/-! ### The shapes of owners -/

/-- Everything a map write can do (R16). -/
theorem mapWrite_cases (inRange : Bool) (store : State → State) (s : State) :
    (s.race ≠ .setup ∧ mapWrite inRange store s = (s, Reply.bare .state)) ∨
    (s.race = .setup ∧ s.storeBusy = true ∧ mapWrite inRange store s = (s, Reply.bare .busy)) ∨
    (s.race = .setup ∧ s.storeBusy = false ∧ inRange = false ∧
      mapWrite inRange store s = (s, Reply.bare .range)) ∨
    (s.race = .setup ∧ s.storeBusy = false ∧ inRange = true ∧
      mapWrite inRange store s = (store s, Reply.bare .ok)) := by
  unfold mapWrite refuse accept
  by_cases h : s.race = .setup <;> cases hb : s.storeBusy <;> cases inRange <;> simp_all

/-- Everything START's and RESUME's tests can do (R164, R167). -/
theorem enterRun_cases (enter : State → State) (s : State) :
    (s.storeBusy = true ∧ enterRun enter s = (s, Reply.bare .busy)) ∨
    (s.storeBusy = false ∧ s.map.validate ≠ none ∧
      enterRun enter s = ({ s with mapValid := false }, { status := .state, body := [0x01] })) ∨
    (s.storeBusy = false ∧ s.map.validate = none ∧ s.railHold = true ∧
      enterRun enter s = ({ s with mapValid := true }, { status := .state, body := [0x02] })) ∨
    (s.storeBusy = false ∧ s.map.validate = none ∧ s.railHold = false ∧
      enterRun enter s = (enter { s with mapValid := true }, Reply.bare .ok)) := by
  unfold enterRun refuse accept runValidation
  cases hb : s.storeBusy <;> cases hr : s.railHold <;> cases hv : s.map.validate <;> simp_all

/-- Everything the checks of SAVE IMAGE and LOAD IMAGE can do (R199, R200). -/
theorem storeRequest_cases (begin_ : State → State) (s : State) :
    (s.race ≠ .setup ∧ storeRequest begin_ s = (s, Reply.bare .state)) ∨
    (s.race = .setup ∧ s.storeBusy = true ∧ storeRequest begin_ s = (s, Reply.bare .busy)) ∨
    (s.race = .setup ∧ s.storeBusy = false ∧ storeRequest begin_ s = (begin_ s, Reply.bare .ok)) := by
  unfold storeRequest refuse accept
  by_cases h : s.race = .setup <;> cases hb : s.storeBusy <;> simp_all

theorem storeBusy_eq_false {s : State} : s.storeBusy = false ↔ s.store = .idle := by
  simp [State.storeBusy]

theorem storeBusy_eq_true {s : State} : s.storeBusy = true ↔ s.store ≠ .idle := by
  simp [State.storeBusy]

end Sys2Proof.Machine
end

