-- ==== Sys2Proof/Tests/Slice0.lean ====
section
/-! SUPPORT. Tests of the LX612's model: ill-formed commands, the manual's worked examples, small tests of the
commands with values taken from their rules, and for every statement with hypotheses a state that meets
them. -/

namespace Sys2Proof.Tests

open Sys2Proof Sys2Proof.Machine

set_option Elab.async false

/-! ### Helpers -/

/-- The state after a command, for tests. -/
def after (i : Instr) (s : State) : State :=
  match exec i s with
  | .next t => t
  | .fault _ | .refused _ => s

/-- The state with a request frame ended on a port and the part running. -/
def ended (p : Port) (code : Byte) (body : List Byte) (s : State) : State :=
  { s.modifyPort p (fun x =>
      { x with phase := .taking, reply := none
               request := some { code := code, length := some (byte body.length), body := body } }) with
    resetHeld := false }

/-- The reply frame composed on a port. -/
def reply (p : Port) (s : State) : List Byte := ((s.ports.get p).reply.map ReplyOut.bytes).getD []

/-- A frame ended by `ended` meets `FrameEnded`. -/
theorem ended_frame (p : Port) (code : Byte) (body : List Byte) (s : State) (h : body.length ≤ 60) :
    FrameEnded p code body (ended p code body s) := by
  cases p <;> exact ⟨rfl, rfl, rfl, h⟩

/-- The queued events of the console, for tests. -/
def told (s : State) : List Event := s.events.console.queue.map EventRecord.event

/-- The layout of the Track Map worked walks with the gates and switches of Chapters 1 and 5. -/
def layout : TrackMap :=
  let segment (lane length next : Nat) : Segment := { used := true, lane := lane, length := length, next := next }
  let gate (segment offset : Nat) : Gate := { used := true, segment := segment, offset := offset }
  { segments := ((((((((Vector.replicate 64 Segment.unused).set 0 (segment 0 2400 1)).set 1 (segment 0 1800 2)).set
      2 (segment 0 900 3)).set 3 (segment 0 3100 0)).set 8 (segment 1 1500 9)).set 9 (segment 1 1200 10)).set
      10 (segment 1 2600 11)).set 11 (segment 1 2900 8)
    switches := ((Vector.replicate 24 Switch.unused).set 5
      { used := true, home := 2, thrown := 9, entryOffset := 720, exitStraightOffset := 150,
        exitThrownOffset := 300, zoneLength := 260, group := some 1, actuation := 250 }).set 6
      { used := true, home := 10, thrown := 3, entryOffset := 2300, exitStraightOffset := 400,
        exitThrownOffset := 200, zoneLength := 260, group := some 1, actuation := 250 }
    gates := (((Vector.replicate 16 Gate.unused).set 2 (gate 8 200)).set 3 (gate 11 2200)).set 4 (gate 0 1200)
    pairingGate := some 4 }

/-- A profile of the worked image (Section 12.1). -/
def profile (vmax length : Nat) (pace : Bool) : Profile :=
  { enabled := true, vmax := vmax, response := 4, length := length, pace := pace }

/-- The exchange with a node, its poll sent. -/
def asking (a : NodeNo) (by_ : Time) (s : State) : State :=
  { s with loop := { s.loop with
      exchange := some { node := a, command := .none, urgent := false, replyBy := some by_, discard := false } } }

/-- The worked race before car 3's lane change (Section 12.4): handset 2 drives car 3, handset 10 car 6,
handset 12 car 7; car 8 is the pace car. -/
def racing : State :=
  let car : Car := Car.reset
  let fix (node : NodeNo) (kind : SensorKind) (time : Time) : Option Fix :=
    some { sensor := { node := node, kind := kind }, time := time }
  let straight : SwitchRun := { SwitchRun.reset with confirmed := .straight }
  let node : NodeRecord := { NodeRecord.reset with state := .ok }
  asking 5 215022 { State.reset with
    clock := 215020
    map := layout
    mapValid := true
    race := .run
    cars := ((((Vector.replicate 12 car).set 3 { car with
        profile := profile 4200 140 false, binding := some 2, intent := some 215110, speed := 2400,
        fix := fix 28 .gate 200000, ageExpiry := some 250001, lastStep := 36 }).set 6 { car with
        profile := profile 4500 150 false, binding := some 10, speed := 3000, fix := fix 27 .gate 212000,
        ageExpiry := some 262001 }).set 7 { car with
        profile := profile 3600 140 false, binding := some 12, speed := 2000, fix := fix 26 .gate 191400,
        ageExpiry := some 241401 }).set 8 { car with
        profile := profile 3000 160 true, speed := 952, fix := fix 5 .exitStraight 214874,
        ageExpiry := some 264875 }
    handsets := (((Vector.ofFn Handset.reset).set 2 { Handset.reset 2 with
        presence := .active, pairing := .bound 3, step := 36 }).set 10 { Handset.reset 10 with
        presence := .active, pairing := .bound 6 }).set 12 { Handset.reset 12 with
        presence := .active, pairing := .bound 7 }
    switches := ((Vector.replicate 24 SwitchRun.reset).set 5 straight).set 6 straight
    loop := { Loop.reset with
      nodes := (((((Vector.replicate 40 NodeRecord.reset).set 5 node).set 6 node).set 26 node).set 27 node).set
        28 node } }

/-- A sound reply of a switch node with one detection. -/
def sighting (a : Nat) (p : ReportedPosition) (carId : Nat) (kind : SensorKind) (age : Nat) : NodeReply :=
  { sound := true, address := a, position := some p, dropped := false
    detections := [{ carId := carId, kind := kind, age := age }] }

/-- The race after car 3's entry detection at switch 5. -/
def granted : State := after (.replyReceived (sighting 5 .straight 3 .entry 20)) racing

/-- The race after car 7's entry detection at switch 6, its driver having armed (Section 12.5). -/
def denied : State :=
  after (.replyReceived (sighting 6 .straight 7 .entry 10))
    (asking 6 215412 ({ granted with clock := 215410 }.modifyCar 7 fun c => { c with intent := some 216000 }))

/-- SAVE IMAGE's first write outstanding. -/
def saving : StoreState := .saving { stage := .clearMarker, left := 0, confirmBy := 215220 }

/-- The worked race back in SETUP. -/
def settled : State := { racing with race := .setup }

/-- The worked race halted. -/
def halted : State := { racing with race := .halt }

/-! ### Ill-formed commands -/

theorem test_hold_end_of_wired_handset_ill_formed : (Instr.holdEnd 7).wellFormed = false := by decide

theorem test_lost_time_of_wired_handset_ill_formed : (Instr.lostTime 0).wellFormed = false := by decide

theorem test_car_id_of_five_bits_ill_formed :
    (Instr.replyReceived (sighting 5 .straight 16 .entry 0)).wellFormed = false := by decide

theorem test_car_id_that_names_no_car_well_formed :
    (Instr.replyReceived (sighting 5 .straight 15 .entry 0)).wellFormed = true := by decide

theorem test_hold_end_of_radio_handset_well_formed : (Instr.holdEnd 8).wellFormed = true := by decide

/-! ### The manual's worked examples -/

/-- Section 1.5, worked walks. -/
theorem test_worked_walks :
    layout.walk 8 200 9 = some 1300 ∧ layout.walk 2 720 3 = some 180 ∧ layout.walk 9 500 9 = some (-500) ∧
      layout.walk 10 400 9 = some 6600 ∧ layout.walk 2 720 9 = none := by decide +kernel

/-- Section 1.9, building and checking a map. -/
theorem test_worked_validation :
    layout.validate = none ∧
      (({ layout with switches := layout.switches.set 5 { layout.switches[5] with thrown := 3 } } :
        TrackMap).validate) = some { record := .switch 5, reason := .sameLane } ∧
      (({ layout with gates := layout.gates.set 4 Gate.unused } : TrackMap).validate) =
        some { record := .pairingGate 4, reason := .pairingGate } ∧
      (({ layout with segments := layout.segments.set 3 { layout.segments[3] with length := 120 } } :
        TrackMap).validate) = some { record := .switch 5, reason := .offset } := by decide +kernel

/-- Section 2.5, the estimator from 1,000 and from 2,460 toward 2,400. -/
theorem test_worked_estimates :
    [1000, 1350, 1612, 1809].map (estimate 4200 4 36) = [1350, 1612, 1809, 1956] ∧
      [2460, 2445, 2434, 2426, 2420, 2415].map (estimate 4200 4 36) = [2445, 2434, 2426, 2420, 2415, 2412] := by
  decide +kernel

/-- Section 3.5, worked steps. -/
theorem test_worked_steps :
    [2000, 480, 3699, 4095].map (deriveStep { zero := 400, full := 3700, deadband := 100 }) = [29, 0, 62, 63] ∧
      [2100, 3900].map (deriveStep { zero := 3700, full := 400, deadband := 100 }) = [29, 0] ∧
      [128, 250].map (deriveStep { zero := 16, full := 240, deadband := 8 }) = [30, 63] := by decide +kernel

/-- Section 12.4: car 3 corrected to 2,460, its intent consumed, its entry granted, and the throw ordered. -/
theorem test_worked_grant :
    granted.cars[3].speed = 2460 ∧ granted.cars[3].intent = none ∧
      granted.lists[5] = [{ car := 3, entryAt := 215731, exitAt := 217358, grantedAt := 215000, staleAt := 237358 }] ∧
      granted.switches[5].state = .throwing ∧ granted.switches[5].deadline = some 215470 ∧
      granted.loop.urgent = [5] := by decide +kernel

/-- Section 12.5: car 7 denied for car 3's entry and car 8, with VERDICT data 00628108h. -/
theorem test_worked_denial :
    denied.verdicts[6].map VerdictRecord.data = some 0x00628108 ∧
      denied.verdicts[6].map VerdictRecord.verdict = some .denyReserved ∧
      denied.verdicts[6].map (fun v => (v.entry, v.exit)) = some (1500, 3500) ∧
      denied.switches[6].state = .straight ∧ denied.cars[7].intent = none := by decide +kernel

/-- Section 12.4: car words before and after the grant, 02A4h and 0224h. -/
theorem test_worked_words : carWord racing 3 = 0x02A4 ∧ carWord granted 3 = 0x0224 := by decide +kernel

/-- Section 8.8: 029Dh for step 29 with INTENT, and 0318h under CAUTION. -/
theorem test_worked_caution_words :
    let s := racing.modifyHandset 2 fun h => { h with step := 29 }
    carWord s 3 = 0x029D ∧ carWord (after (.caution .console) (ended .console 0x10 [1] s)) 3 = 0x0318 := by
  decide +kernel

/-! ### Ports -/

theorem test_chip_select_fall_receives :
    (after (.chipSelectFall .radio) State.reset).ports.radio.phase = .receiving := by decide +kernel

theorem test_chip_select_rise_counts_abort :
    (after (.chipSelectRise .console) (after (.masterSendsByte .console 0x20)
      (after (.chipSelectFall .console) State.reset))).ports.console.aborted = 1 := by decide +kernel

theorem test_chip_select_rise_counts_cut :
    (after (.chipSelectRise .base) (after (.railFault .base) (ended .base 0x11 [] State.reset))).ports.base.cut =
      1 := by decide +kernel

/-- Section 10.7: 31h, 01h, 03h ends a READ CAR frame. -/
theorem test_three_bytes_end_read_car :
    (([0x31, 0x01, 0x03] : List Byte).foldl (fun s b => after (.masterSendsByte .console b) s)
      (after (.chipSelectFall .console) State.reset)).ports.console.phase = .taking := by decide +kernel

/-- R178: the byte after 16 fillers finds the reply ready, and the sixteenth filler does not. -/
theorem test_reply_follows_sixteen_fillers :
    let s := (List.replicate 16 (0 : Byte)).foldl (fun s b => after (.masterSendsByte .base b) s)
      (ended .base 0x11 [] State.reset)
    s.ports.base.phase = .taking ∧ s.ports.base.miso = 0xFF ∧
      (after (.masterSendsByte .base 0) s).ports.base.miso = 0xA5 ∧
      (after (.masterSendsByte .base 0) s).railHold = true := by decide +kernel

theorem test_unknown_code :
    reply .base (after (.unknownRequest .base) (ended .base 0x07 [] State.reset)) = [0xA5, 0x10, 0x00] := by
  decide +kernel

/-- Section 10.7: WRITE PROFILE on SP2 is answered ROLE, and with a body of 7 bytes FORMAT. -/
theorem test_format_before_role :
    reply .radio (after (.writeProfile .radio) (ended .radio 0x30 (List.replicate 8 0) State.reset)) =
        [0xA5, 0x12, 0x00] ∧
      reply .radio (after (.writeProfile .radio) (ended .radio 0x30 (List.replicate 7 0) State.reset)) =
        [0xA5, 0x11, 0x00] := by decide +kernel

theorem test_identify_on_radio_port :
    (reply .radio (after (.identify .radio) (ended .radio 0x01 [] State.reset))).take 8 =
      [0xA5, 0x00, 0x11, 0x56, 0x64, 0x02, 0x02, 0x02] := by decide +kernel

theorem test_status_length_and_clock :
    let r := reply .base (after (.status .base) (ended .base 0x02 [] racing))
    r[2]? = some 0x13 ∧ r[3]? = some 0x01 ∧ (r.drop 7).take 4 = [0xEC, 0x47, 0x03, 0x00] := by decide +kernel

/-! ### Events -/

/-- One RACE_STATE record, of class code 7, is returned and none is left. -/
theorem test_read_events_removes_the_record :
    let s := after (.start .console) (ended .console 0x10 [0] { racing with race := .setup })
    let t := after (.readEvents .base) (ended .base 0x03 [] s)
    t.events.base.queue = [] ∧ (reply .base t).take 6 = [0xA5, 0x00, 0x0E, 0x00, 0x01, 0x07] := by decide +kernel

theorem test_set_event_mask :
    (after (.setEventMask .radio) (ended .radio 0x04 [0x00, 0x01] State.reset)).events.radio.mask = 0x100 := by
  decide +kernel

theorem test_event_mask_reserved_bit :
    reply .radio (after (.setEventMask .radio) (ended .radio 0x04 [0x00, 0x02] State.reset)) =
      [0xA5, 0x11, 0x00] := by decide +kernel

/-- Section 11.5: the keep-mask 00011101b clears OVERRUN alone. -/
theorem test_clear_flags_keep_mask :
    let all : StickyFlags := ⟨true, true, true, true, true⟩
    let s := State.reset.modifyEvents .radio fun q => { q with flags := all }
    (after (.clearFlags .radio) (ended .radio 0x05 [0x1D] s)).events.radio.flags =
      { all with overrun := false } := by decide +kernel

theorem test_clear_queue :
    let s := after (.railFault .base) (ended .base 0x11 [] State.reset)
    s.events.console.queue.length = 1 ∧
      (after (.clearQueue .console) (ended .console 0x06 [] s)).events.console.queue = [] := by decide +kernel

/-! ### Race states -/

theorem test_start_runs :
    let t := after (.start .console) (ended .console 0x10 [0] { racing with race := .setup, mapValid := false })
    t.race = .run ∧ t.mapValid = true ∧ told t = [.raceState .setup .run .start] := by decide +kernel

/-- Section 12.2: START with a blank map is answered STATE, MAP_INVALID. -/
theorem test_start_without_map :
    reply .console (after (.start .console) (ended .console 0x10 [0] State.reset)) =
      [0xA5, 0x13, 0x01, 0x01] := by decide +kernel

theorem test_caution_clears_intents :
    let t := after (.caution .console) (ended .console 0x10 [1] racing)
    t.race = .caution ∧ t.cars[3].intent = none := by decide +kernel

theorem test_clear_caution :
    (after (.clearCaution .console) (ended .console 0x10 [2] { racing with race := .caution })).race = .run := by
  decide +kernel

/-- Section 12.7's order: RACE_STATE, REVOKED, SW_STATE. -/
theorem test_halt_empties_list_and_returns_switch :
    let t := after (.halt .console) (ended .console 0x10 [3] granted)
    t.race = .halt ∧ t.lists[5] = [] ∧ t.switches[5].state = .returning ∧
      (told t).drop 2 = [.raceState .run .halt .halt, .revoked 3 5 .halt,
        .switchState 5 .throwing .returning .returnOrder .straight] := by decide +kernel

theorem test_resume_keeps_fixes_stale :
    let t := after (.resume .console) (ended .console 0x10 [4] { racing with race := .halt })
    t.race = .run ∧ t.cars[3].speed = 0 ∧ t.cars[3].stale = true ∧ t.cars[3].fix = racing.cars[3].fix := by
  decide +kernel

theorem test_setup_from_halt :
    (after (.setup .console) (ended .console 0x10 [5] { racing with race := .halt })).race = .setup ∧
      reply .console (after (.setup .console) (ended .console 0x10 [5] racing)) = [0xA5, 0x01, 0x00] := by
  decide +kernel

theorem test_bad_race_target :
    reply .console (after (.setRaceStateBadTarget .console) (ended .console 0x10 [6] racing)) =
      [0xA5, 0x14, 0x00] := by decide +kernel

theorem test_rail_fault_halts :
    let t := after (.railFault .base) (ended .base 0x11 [] racing)
    t.race = .halt ∧ t.railHold = true ∧ t.events.radio.flags.railFault = true := by decide +kernel

theorem test_rail_clear_leaves_race :
    let t := after (.railClear .base) (ended .base 0x12 [] { racing with railHold := true, race := .halt })
    t.railHold = false ∧ t.race = .halt := by decide +kernel

/-- R162 and R181: STATUS gives the rail hold as 01h while it is clear and as 00h while it is set. -/
theorem test_status_rail_hold :
    (statusReply State.reset .base)[1]? = some 0x01 ∧
      (statusReply { State.reset with railHold := true } .base)[1]? = some 0x00 := by decide +kernel

/-- R108 and R181: READ SWITCH gives the absent last-verdict record as code 01h and fields of 0. -/
theorem test_switch_reply_no_verdict :
    ((switchReply State.reset 5).reverse.take 16).reverse = 1 :: List.replicate 15 0 := by decide +kernel

/-! ### The track map -/

/-- Section 1.9: WRITE SEGMENT 3, lane 0, length 120, next 0. -/
theorem test_write_segment :
    let t := after (.writeSegment .console)
      (ended .console 0x20 [0x03, 0x01, 0x00, 0x78, 0x00, 0x00] { racing with race := .setup })
    t.map.segments[3] = { used := true, lane := 0, length := 120, next := 0 } ∧ t.mapValid = false ∧
      t.cars[3].fix = none := by decide +kernel

theorem test_read_segment :
    reply .radio (after (.readSegment .radio) (ended .radio 0x21 [0x02] racing)) =
      [0xA5, 0x00, 0x05, 0x01, 0x00, 0x84, 0x03, 0x03] := by decide +kernel

theorem test_write_switch_begins_return :
    let t := after (.writeSwitch .console) (ended .console 0x22
      [0x05, 0x01, 0x02, 0x09, 0xD0, 0x02, 0x96, 0x00, 0x2C, 0x01, 0x04, 0x01, 0x01, 0xFA, 0x00] State.reset)
    t.map.switches[5] = layout.switches[5] ∧ t.switches[5].state = .returning ∧
      t.switches[5].deadline = some 450 ∧ t.loop.urgent = [5] := by decide +kernel

theorem test_read_switch_length :
    (reply .base (after (.readSwitch .base) (ended .base 0x23 [0x05] racing))).take 5 =
      [0xA5, 0x00, 0x2F, 0x01, 0x02] := by decide +kernel

theorem test_write_gate_polls_node :
    let t := after (.writeGate .console) (ended .console 0x24 [0x04, 0x01, 0x00, 0xB0, 0x04] State.reset)
    t.map.gates[4] = { used := true, segment := 0, offset := 1200 } ∧ t.loop.nodes[28].state = .ok := by
  decide +kernel

theorem test_read_gate :
    reply .base (after (.readGate .base) (ended .base 0x25 [0x04] racing)) =
      [0xA5, 0x00, 0x05, 0x01, 0x00, 0xB0, 0x04, 0x01] := by decide +kernel

theorem test_set_pairing_gate_none :
    (after (.setPairingGate .console) (ended .console 0x26 [0xFF] { racing with race := .setup })).map.pairingGate =
      none := by decide +kernel

theorem test_validate_map_sets_flag :
    (after (.validateMap .console) (ended .console 0x27 [] { racing with mapValid := false })).mapValid = true := by
  decide +kernel

/-! ### Cars and handsets -/

theorem test_write_profile_disables :
    let t := after (.writeProfile .console) (ended .console 0x30
      [0x03, 0x00, 0x68, 0x10, 0x04, 0x8C, 0x00, 0x00] { racing with race := .setup })
    t.cars[3].profile = { profile 4200 140 false with enabled := false } ∧ t.cars[3].binding = none ∧
      t.handsets[2].pairing = .idle ∧ told t = [.unbound 2 (some 3) .disabled] := by decide +kernel

theorem test_read_car_fields :
    (reply .radio (after (.readCar .radio) (ended .radio 0x31 [0x03] racing))).take 11 =
      [0xA5, 0x00, 0x1A, 0x01, 0x68, 0x10, 0x04, 0x8C, 0x00, 0x00, 0x02] := by decide +kernel

/-- R39 and R181: the stale indication is 01h for a fresh fix and 00h once its age expiry has come. -/
theorem test_read_car_stale_indication :
    let byte := fun s : State => (reply .radio (after (.readCar .radio) (ended .radio 0x31 [0x03] s)))[25]?
    byte racing = some 0x01 ∧ byte (after (.ageExpiry 3) { racing with clock := 250001 }) = some 0x00 := by
  decide +kernel

theorem test_write_calibration :
    (after (.writeCalibration .console)
      (ended .console 0x40 [0x00, 0x74, 0x0E, 0x90, 0x01, 0x64, 0x00] State.reset)).handsets[0].calibration =
      { zero := 3700, full := 400, deadband := 100 } := by decide +kernel

theorem test_set_scan_drops_handset_outside :
    let t := after (.setScan .console) (ended .console 0x41 [0x00, 0x03] racing)
    t.handsets[2].presence = .absent ∧ t.scanner.nextRound = 215100 ∧
      told t = [.handsetAbsent 2 (some 3) .scanSet] := by decide +kernel

theorem test_read_raw_clears_fresh :
    (after (.readRaw .console) (ended .console 0x42 [0x01] { State.reset with scanner := { Scanner.reset with
      latches := Scanner.reset.latches.set 1 { raw := 0xABC, fresh := true } } })).scanner.latches[1] =
      { raw := 0xABC, fresh := false } := by decide +kernel

theorem test_read_handset_of_radio :
    (reply .radio (after (.readHandset .radio) (ended .radio 0x43 [0x0C] racing))).take 7 =
      [0xA5, 0x00, 0x15, 0x01, 0x01, 0x02, 0x07] := by decide +kernel

/-- R49: a sample of a wired number is skipped and counted. -/
theorem test_post_samples_counts :
    let t := after (.postSamples .radio) (ended .radio 0x44 [0x02, 0x09, 0xFA, 0x00, 0x02, 0xFA, 0x00] State.reset)
    reply .radio t = [0xA5, 0x00, 0x02, 0x01, 0x01] ∧ t.handsets[9].step = 63 ∧
      t.handsets[9].lostTime = some 5000 := by decide +kernel

theorem test_bind_enabled_car :
    let t := after (.bind .console) (ended .console 0x50 [0x04, 0x08] racing)
    t.cars[8].binding = some 4 ∧ t.handsets[4].pairing = .bound 8 ∧ told t = [.bound 4 8 .console] := by
  decide +kernel

theorem test_bind_conflict_names_both :
    reply .console (after (.bind .console) (ended .console 0x50 [0x02, 0x08] racing)) =
      [0xA5, 0x15, 0x02, 0x03, 0xFF] := by decide +kernel

theorem test_unbind_clears_intent :
    let t := after (.unbind .console) (ended .console 0x51 [0x02] racing)
    t.cars[3].binding = none ∧ t.cars[3].intent = none ∧ t.handsets[2].pairing = .idle := by decide +kernel

theorem test_read_pairing_length :
    (reply .base (after (.readPairing .base) (ended .base 0x52 [] racing))).take 4 = [0xA5, 0x00, 0x22, 0x00] := by
  decide +kernel

/-! ### Switches, nodes, frames and settings -/

theorem test_lock_switch_straight :
    let t := after (.lockSwitch .console) (ended .console 0x60 [0x05] racing)
    t.switches[5].state = .locked ∧ t.switches[5].deadline = none := by decide +kernel

theorem test_lock_switch_throwing_revokes :
    let t := after (.lockSwitch .console) (ended .console 0x60 [0x05] granted)
    t.switches[5].state = .locked ∧ t.switches[5].commanded = .straight ∧ t.lists[5] = [] := by decide +kernel

theorem test_unlock_switch :
    (after (.unlockSwitch .console) (ended .console 0x61 [0x05]
      (racing.modifySwitch 5 fun r => { r with state := .locked }))).switches[5].state = .straight := by
  decide +kernel

theorem test_clear_switch :
    let t := after (.clearSwitch .console) (ended .console 0x62 [0x05]
      (racing.modifySwitch 5 fun r => { r with state := .fault }))
    t.switches[5].state = .returning ∧ t.switches[5].deadline = some 215470 := by decide +kernel

theorem test_read_node_urgent_place :
    let r := reply .base (after (.readNode .base) (ended .base 0x68 [0x05] granted))
    r.take 4 = [0xA5, 0x00, 0x14, 0x01] ∧ r.drop 20 = [0x01, 0x01, 0x00] := by decide +kernel

theorem test_fetch_before_first_frame :
    reply .base (after (.fetchFrame .base) (ended .base 0x70 [] State.reset)) = [0xA5, 0x13, 0x00] := by
  decide +kernel

theorem test_fetch_marks_fetched :
    let s := after .cycleEnd { racing with frames := { FrameBuilder.reset with cycleEnd := ⟨215020, 0⟩ } }
    let t := after (.fetchFrame .base) (ended .base 0x70 [] s)
    t.frames.fetched = true ∧ t.frames.framePending = false ∧
      (reply .base t).take 5 = [0xA5, 0x00, 0x1D, 0x01, 0x01] := by decide +kernel

theorem test_set_cycle_trim_range :
    (after (.setCycleTrim .console) (ended .console 0x71 [0x3F] State.reset)).frames.trim = 63 ∧
      reply .console (after (.setCycleTrim .console) (ended .console 0x71 [0x40] State.reset)) =
        [0xA5, 0x14, 0x00] := by decide +kernel

theorem test_set_limits :
    (after (.setLimits .console) (ended .console 0x80 [0xC8, 0x00, 0x0A, 0x10, 0x12, 0x01] State.reset)).limits =
      { guardTime := 200, intentHold := 10, cautionStep := 16, paceStep := 18, satEvents := true } := by
  decide +kernel

theorem test_save_image_clears_marker :
    let t := after (.saveImage .console)
      (ended .console 0x81 [] { State.reset with memory := { Image.blank with marker := true } })
    t.memory.marker = false ∧
      t.store = .saving { stage := .clearMarker, left := 0, confirmBy := 200 } := by decide +kernel

theorem test_load_image_refused_in_run :
    reply .console (after (.loadImage .console) (ended .console 0x82 [] racing)) = [0xA5, 0x13, 0x00] ∧
      (after (.loadImage .console) (ended .console 0x82 [] State.reset)).store = .loading := by decide +kernel

theorem test_restart_at_the_rise :
    let s := after (.restart .console) (ended .console 0x83 [] racing)
    s.restartAccepted = true ∧ (after (.chipSelectRise .console) s).race = .setup ∧
      (after (.chipSelectRise .console) s).clock = 0 := by decide +kernel

/-! ### Resets, timers and the loop -/

theorem test_reset_pin_holds :
    after (.cycleEnd) (after .resetPinAssert racing) = after .resetPinAssert racing := by decide +kernel

theorem test_power_on_load_strap :
    (after (.powerOnReset { Straps.low with load := true }) racing).store = .loading ∧
      (after (.powerOnReset { Straps.low with load := true }) racing).race = .setup := by decide +kernel

theorem test_interval_timer_starts_round :
    let t := after .intervalTimerExpiry { State.reset with clock := 20 }
    t.scanner.round = [0, 1, 2, 3, 4, 5, 6, 7] ∧ t.scanner.nextRound = 40 := by decide +kernel

/-- R47: the third present result in a row makes a handset ACTIVE. -/
theorem test_third_present_result_activates :
    let s := { State.reset.modifyHandset 0 (fun h => { h with presenceCount := 2 }) with
      scanner := { Scanner.reset with round := [0, 1] } }
    let t := after (.roundResult 0 2000 false) s
    t.handsets[0].presence = .active ∧ t.handsets[0].step = 29 ∧ t.scanner.round = [1] := by decide +kernel

theorem test_hold_end_zeroes_step :
    (after (.holdEnd 12) (racing.modifyHandset 12 fun h =>
      { h with holdEnd := some 215020, step := 40 })).handsets[12].step = 0 := by decide +kernel

theorem test_lost_time :
    (after (.lostTime 12) (racing.modifyHandset 12 fun h =>
      { h with lostTime := some 215020 })).handsets[12].presence = .lost := by decide +kernel

/-- Section 12.3: hold timers from 120,050 expire at 140,050 and seek. -/
theorem test_hold_timer_seeks :
    let s := { State.reset.modifyHandset 2 (fun h => { h with holdTimer := some 120050 }) with clock := 140050 }
    (after (.holdTimerExpiry 2) s).seeks = [{ handset := 2, joined := 140050 }] ∧
      told (after (.holdTimerExpiry 2) s) = [.seekStart 2 1] := by decide +kernel

theorem test_seek_timer_times_out :
    let s := { State.reset.modifyHandset 2 (fun h => { h with pairing := .seeking }) with
      clock := 340050, seeks := [{ handset := 2, joined := 140050 }] }
    (after (.seekTimerExpiry 2) s).seeks = [] ∧ (after (.seekTimerExpiry 2) s).handsets[2].pairing = .idle := by
  decide +kernel

theorem test_intent_expiry :
    (after (.intentExpiry 3) racing).cars[3].intent = some 215110 ∧
      (after (.intentExpiry 3) { racing with clock := 215110 }).cars[3].intent = none := by decide +kernel

theorem test_age_expiry_marks_stale :
    (after (.ageExpiry 3) { racing with clock := 250001 }).cars[3].stale = true := by decide +kernel

theorem test_stale_expiry_returns_switch :
    let t := after (.staleExpiry 5 3) { granted with clock := 237358 }
    t.lists[5] = [] ∧ t.switches[5].state = .returning := by decide +kernel

theorem test_deadline_faults_switch :
    let t := after (.deadlineExpiry 5) { granted with clock := 215470 }
    t.switches[5].state = .fault ∧ t.switches[5].commanded = .straight ∧ t.lists[5] = [] ∧
      t.loop.urgent = [] := by decide +kernel

theorem test_cycle_end_publishes :
    let t := after .cycleEnd { State.reset with clock := 80 }
    t.frames.seq = 1 ∧ t.frames.framePending = true ∧ t.frames.cycleEnd = { tu := 160, quarter := 0 } := by
  decide +kernel

theorem test_poll_sent_starts_reply_timer :
    (after .pollSent { racing with loop := { racing.loop with
      exchange := some ⟨5, .none, false, none, false⟩ } }).loop.exchange.bind Exchange.replyBy = some 215022 := by
  decide +kernel

theorem test_reply_of_thrown_confirms :
    let s := asking 5 215282 { granted with clock := 215280 }
    let t := after (.replyReceived ⟨true, 5, some .thrown, [], false⟩) s
    t.switches[5].state = .thrown ∧ t.switches[5].deadline = none ∧ t.loop.urgent = [] := by decide +kernel

/-- R83 and R86: car 3's only entry at a THROWN switch 5 is superseded, and test 2 still reads THROWN. -/
theorem test_own_entry_at_thrown_switch_is_in_time :
    let s := (racing.modifySwitch 5 fun r => { r with state := .thrown, commanded := .thrown }).setList 5
      [{ car := 3, entryAt := 215731, exitAt := 217358, grantedAt := 215000, staleAt := 237358 }]
    let t := settle 3 5 215000 (s.modifyCar 3 fun c => { c with speed := 8000 })
    t.verdicts[5].map VerdictRecord.verdict = some .grant ∧ t.switches[5].state = .throwing ∧
      (told t).take 2 = [.revoked 3 5 .superseded,
        .switchState 5 .thrown .returning .returnOrder .straight] := by decide +kernel

theorem test_reply_timeout_is_a_miss :
    (after .replyTimeout { racing with clock := 215022 }).loop.nodes[5].state = .missing := by decide +kernel

theorem test_last_confirmation_ends_save :
    let t := after .saveWriteConfirm { State.reset with
      generation := 7, store := .saving { stage := .setMarker, left := 0, confirmBy := 200 } }
    t.store = .idle ∧ t.generation = 8 ∧ t.memory.marker = true ∧ told t = [.storeDone .save 8] := by
  decide +kernel

/-- R199 step 2: the last contents write leaves the contents and the sum in the memory, without the marker. -/
theorem test_contents_stand_before_the_marker :
    let s : State := { settled with store := .saving { stage := .contents, left := 0, confirmBy := 215220 } }
    let t := after .saveWriteConfirm s
    t.memory.marker = false ∧ t.memory.limits = racing.limits ∧ t.memory.sum = (imageOf settled).sum ∧
      t.generation = 0 := by decide +kernel

theorem test_save_timeout_fails :
    let t := after .saveWriteTimeout { State.reset with
      clock := 200, store := .saving { stage := .contents, left := 3, confirmBy := 200 } }
    t.store = .idle ∧ t.generation = 0 ∧ told t = [.storeFail .save .noAck] := by decide +kernel

/-- Section 12.2: a blank memory fails with MARKER. -/
theorem test_blank_memory_fails_load :
    told (after .loadComplete { State.reset with store := .loading }) = [.storeFail .load .marker] := by
  decide +kernel

/-! ### States that meet the hypotheses of the statements

Each theorem below is named after its statement and shows, clause by clause, concrete states and operands that
meet its hypotheses together, boundary values among them. -/

/-- A frame of any kind standing ended on a port. -/
def endedAs (p : Port) (f : Frame) (s : State) : State :=
  s.modifyPort p fun x => { x with phase := .taking, request := some f }

/-- Bytes clocked into a port one after another. -/
def clocked (p : Port) (l : List Byte) (s : State) : State := l.foldl (fun s b => after (.masterSendsByte p b) s) s

theorem witness_IdlePartTakesWhatIsDue :
    State.reset.pending = [] ∧ State.reset.resetHeld = false ∧ (after .resetPinAssert racing).resetHeld = true ∧
      dueCommands State.reset = [] ∧ dueCommands { State.reset with clock := 20 } = [.intervalTimerExpiry] ∧
      dueCommands { State.reset with clock := 80 } = [.intervalTimerExpiry, .cycleEnd] ∧
      reached 0x7FFFFFFF 0 = true ∧ reached 0x80000000 0 = false := by decide +kernel

theorem witness_ResetPinHoldsThePart : (after .resetPinAssert racing).resetHeld = true := by decide +kernel

theorem witness_SelectAndBytesByPhase :
    let fallen := after (.chipSelectFall .base) racing
    let coded := clocked .base [0x03] fallen
    let long := clocked .base [0x30, 60] fallen
    let last := clocked .base [0x05, 1] fallen
    let replying := after (.railFault .base) (ended .base 0x11 [] racing)
    let done := clocked .base [0, 0, 0] replying
    racing.ports.base.phase = .idle ∧ fallen.ports.base.phase = .receiving ∧ fallen.ports.base.request = none ∧
      fallen.restartAccepted = false ∧ coded.ports.base.request = some ⟨0x03, none, []⟩ ∧
      long.ports.base.request = some ⟨0x30, some 60, []⟩ ∧ last.ports.base.request = some ⟨0x05, some 1, []⟩ ∧
      [coded, long, last].all (fun s => s.ports.base.phase == .receiving && !s.resetHeld) = true ∧
      (clocked .base [0x03, 0] fallen).ports.base.phase = .taking ∧
      (clocked .base [0x03, 61] fallen).ports.base.phase = .taking ∧
      replying.ports.base.phase = .replying ∧ replying.ports.base.reply = some ⟨[0xA5, 0, 0], 0⟩ ∧
      done.ports.base.phase = .done ∧ done.resetHeld = false ∧
      (clocked .base [0, 0] replying).ports.base.reply = some ⟨[0xA5, 0, 0], 2⟩ ∧
      (clocked .base (0x06 :: List.replicate 16 0) fallen).ports.base.filler = 15 ∧
      (clocked .base (0x06 :: List.replicate 16 0) fallen).ports.base.phase = .taking := by decide +kernel

theorem witness_SelectAndBytesByPhase_ended_frame :
    ∃ f t, endedFrame .base (ended .base 0x06 [] racing) = some f ∧
      exec (requestCommand .base f) (ended .base 0x06 [] racing) = .next t := ⟨_, _, rfl, rfl⟩

theorem witness_SelectAndBytesByPhase_fillers :
    let s := clocked .base (List.replicate 16 0) (ended .base 0x06 [] racing)
    16 ≤ (s.ports.get .base).filler ∧ ∃ f t, endedFrame .base s = some f ∧
      exec (requestCommand .base f) s = .next t := ⟨by decide +kernel, _, _, rfl, rfl⟩

theorem witness_RequestReceivedWhole :
    racing.resetHeld = false ∧ racing.ports.radio.phase = .idle ∧ ([] : List Byte).length ≤ 60 ∧
      (List.replicate 60 (0xFF : Byte)).length ≤ 60 := by decide +kernel

theorem witness_ReplyClockedOutWhole :
    let s := after (.railFault .base) (ended .base 0x11 [] racing)
    s.resetHeld = false ∧ s.ports.base.phase = .replying ∧ s.ports.base.reply = some ⟨[0xA5, 0, 0], 0⟩ ∧
      ([[0], [0, 0, 0]] : List (List Byte)).all (fun sent => sent ≠ [] ∧ sent.length ≤ 3) = true := by
  decide +kernel

theorem witness_FrameChecksInOrder :
    let f : List Byte → Frame := fun body => ⟨0x30, some (byte body.length), body⟩
    let right := 3 :: Profile.reset.bytes
    let x := Request.writeProfile
    endedFrame .base (endedAs .base ⟨0x07, some 0, []⟩ racing) = some ⟨0x07, some 0, []⟩ ∧
      (0x07 : Byte) ∉ catalogueCodes ∧ racing.resetHeld = false ∧
      endedFrame .base (endedAs .base ⟨0x30, some 61, []⟩ racing) = some ⟨0x30, some 61, []⟩ ∧
      x.owns ⟨0x30, some 61, []⟩ = true ∧ (some (61 : Byte)).any (60 < ·.toNat) = true ∧
      endedFrame .console (endedAs .console (f right) racing) = some (f right) ∧ x.owns (f right) = true ∧
      (f right).length.any (60 < ·.toNat) = false ∧ x.lengthFits (right.drop 1) = false ∧
      x.lengthFits right = true ∧ x.reservedSet [3, 2, 0, 0, 0, 0, 0, 0] = true ∧ x.reservedSet right = false ∧
      x.allows (portRole .radio) = false ∧ x.allows (portRole .console) = true := by decide +kernel

theorem witness_ReadingRequests (p : Port) (n : Nat) :
    (∀ code ∈ [0x01, 0x02, 0x52], FrameEnded p code [] (ended p code [] racing)) ∧
      ∀ code ∈ [0x21, 0x23, 0x25, 0x31, 0x43, 0x68], FrameEnded p code [byte n] (ended p code [byte n] racing) :=
  ⟨fun _ _ => ended_frame _ _ _ _ (by simp), fun _ _ => ended_frame _ _ _ _ (by simp)⟩

theorem witness_ReadingRequests_urgent :
    (5 : SwitchNo) ∉ racing.loop.urgent ∧ granted.loop.urgent = [] ++ 5 :: [] ∧
      (5 : SwitchNo) ∉ ([] : List SwitchNo) ∧ (39 : Nat) < 40 ∧ (23 : Nat) < 24 := by decide +kernel

theorem witness_RaisingOffersToEveryPort :
    let full := (List.replicate 33 (Event.railClear .run)).foldl (fun s e => raise e s) racing
    racing.events.base.mask.getLsbD (Event.seekStart 0 1).maskBit = false ∧
      racing.events.console.mask.getLsbD (Event.seekStart 0 1).maskBit = true ∧
      racing.events.console.queue.length = 0 ∧ full.events.console.queue.length = 32 ∧
      full.events.console.drops = 1 ∧ full.events.console.mask.getLsbD (Event.railClear .run).maskBit = true := by
  decide +kernel

theorem witness_EventRequests (p : Port) :
    (∀ code ∈ [0x03, 0x06], FrameEnded p code [] (ended p code [] granted)) ∧
      FrameEnded p 0x04 [0xFF, 0x01] (ended p 0x04 [0xFF, 0x01] granted) ∧
      FrameEnded p 0x05 [0x1F] (ended p 0x05 [0x1F] granted) :=
  ⟨fun _ _ => ended_frame _ _ _ _ (by simp), ended_frame _ _ _ _ (by simp), ended_frame _ _ _ _ (by simp)⟩

theorem witness_EventRequests_attention :
    granted.resetHeld = false ∧ granted.events.console.queue ≠ [] ∧ granted.events.radio.queue = [] ∧
      granted.frames.framePending = false ∧
      (after .cycleEnd { State.reset with clock := 80 }).frames.framePending = true := by decide +kernel

/-- The worked race after a grant, a command waiting. -/
def stepping : State := { granted with pending := [.pollSent] }

/-- A step from `stepping` goes on, so that the kept laws speak of it. -/
theorem witness_kept_laws_step : ∃ t, step stepping = .next t := ⟨_, rfl⟩

theorem witness_EventLawKept : EventLaw stepping := by
  intro p; cases p <;> decide +kernel

theorem witness_RailLawKept : RailLaw stepping := by unfold RailLaw; decide +kernel

theorem witness_IntentLawKept : IntentLaw { racing with pending := [.cycleEnd] } := by
  unfold IntentLaw; decide +kernel

theorem witness_PairingLawKept : PairingLaw stepping := by
  constructor <;> decide +kernel

theorem witness_ReservationLawKept : ReservationLaw stepping := by
  constructor <;> decide +kernel

theorem witness_RangeLawKept : RangeLaw stepping := by
  constructor <;> decide +kernel

theorem witness_FrameAndPortLawsKept : FrameLaw stepping ∧ PortLaw stepping := by
  have hf : stepping.frames.published = none := by decide +kernel
  have hp : ∀ p, stepping.ports.get p = PortState.reset .pushPull := by intro p; cases p <;> decide +kernel
  refine ⟨⟨by simp [hf], by decide +kernel, by decide +kernel, by decide +kernel⟩, fun p => ?_⟩
  rw [hp]
  exact ⟨⟨rfl, rfl⟩, by decide, by decide, by decide⟩

theorem witness_StartTested :
    let s := ended .console 0x10 [0] settled
    FrameEnded .console 0x10 [0] s ∧ s.race = .setup ∧ s.store = .idle ∧ s.map.validate = none ∧
      s.railHold = false := ⟨ended_frame _ _ _ _ (by decide), by decide +kernel⟩

theorem witness_StartTested_refusals :
    (∀ s : State, FrameEnded .console 0x10 [0] (ended .console 0x10 [0] s)) ∧ State.reset.race = .setup ∧
      State.reset.store = .idle ∧ State.reset.map.validate ≠ none ∧ saving ≠ .idle ∧
      { settled with railHold := true }.map.validate = none ∧ { settled with store := saving }.race = .setup :=
  ⟨fun _ => ended_frame _ _ _ _ (by decide), by decide +kernel⟩

theorem witness_ResumeTested :
    let s := ended .console 0x10 [4] halted
    FrameEnded .console 0x10 [4] s ∧ s.race = .halt ∧ s.store = .idle ∧ s.map.validate = none ∧
      s.railHold = false := ⟨ended_frame _ _ _ _ (by decide), by decide +kernel⟩

theorem witness_ResumeTested_refusals :
    (∀ s : State, FrameEnded .console 0x10 [4] (ended .console 0x10 [4] s)) ∧
      { State.reset with race := .halt }.map.validate ≠ none ∧ { State.reset with race := .halt }.store = .idle ∧
      { halted with railHold := true }.map.validate = none ∧ { halted with store := saving }.race = .halt :=
  ⟨fun _ => ended_frame _ _ _ _ (by decide), by decide +kernel⟩

theorem witness_CautionAndBack :
    let s := ended .console 0x10 [1] racing
    let t := ended .console 0x10 [2] { racing with race := .caution }
    FrameEnded .console 0x10 [1] s ∧ FrameEnded .console 0x10 [2] t ∧ s.race = .run ∧ t.race = .caution :=
  ⟨ended_frame _ _ _ _ (by decide), ended_frame _ _ _ _ (by decide), by decide +kernel⟩

theorem witness_HaltClearsTheField :
    let s := ended .console 0x10 [3] granted
    FrameEnded .console 0x10 [3] s ∧ s.race ≠ .halt ∧ s.lists[5] ≠ [] ∧ s.switches[5].state = .throwing ∧
      s.lists[6] = [] ∧ s.lists[5].length = 1 ∧ s.switches[6].state ≠ .throwing :=
  ⟨ended_frame _ _ _ _ (by decide), by decide +kernel⟩

theorem witness_OtherRaceTargets :
    (∀ (target : Byte) (s : State), FrameEnded .console 0x10 [target] (ended .console 0x10 [target] s)) ∧
      halted.race = .halt ∧ racing.race ≠ .setup ∧ settled.race ≠ .run ∧ racing.race ≠ .caution ∧
      racing.race ≠ .halt ∧ 5 < (6 : Byte).toNat ∧ 5 < (255 : Byte).toNat :=
  ⟨fun _ _ => ended_frame _ _ _ _ (by simp), by decide +kernel⟩

theorem witness_RailFaultAndClear :
    (∀ code : Byte, ∀ s : State, FrameEnded .base code [] (ended .base code [] s)) ∧
      [settled.race, halted.race, racing.race, { racing with race := .caution }.race] =
        [.setup, .halt, .run, .caution] ∧
      racing.railHold = false ∧ { halted with railHold := true }.railHold = true ∧ granted.race = .run ∧
      granted.lists[5] ≠ [] ∧ granted.switches[5].state = .throwing :=
  ⟨fun _ _ => ended_frame _ _ _ _ (by simp), by decide +kernel⟩

theorem witness_RaceChangesOnlyByItsRequests :
    let i := Instr.masterSendsByte .base 0
    let s := clocked .base (List.replicate 15 0) (ended .base 0x11 [] racing)
    (∃ t, exec i s = .next t) ∧ (∀ x, i ≠ .powerOnReset x) ∧
      (∀ p b, i = .masterSendsByte p b → (s.ports.get p).filler < 16) ∧
      ∀ p, i ∉ [Instr.start p, .caution p, .clearCaution p, .halt p, .resume p, .setup p, .railFault p,
        .chipSelectRise p] := by
  refine ⟨⟨_, rfl⟩, by simp, fun p b h => ?_, by simp⟩
  obtain ⟨rfl, rfl⟩ := Instr.masterSendsByte.inj h
  decide +kernel

theorem witness_MapWritesTakenOrRefused :
    let body := fun r : Segment => byte 63 :: r.bytes
    (∀ (code : Byte) (b : List Byte) (s : State), b.length ≤ 60 →
        FrameEnded .console code b (ended .console code b s)) ∧
      settled.race = .setup ∧ settled.store = .idle ∧ racing.race ≠ .setup ∧
      ([⟨true, 3, 50, 63⟩, ⟨false, 0, 10000, 0⟩, ⟨true, 4, 10001, 64⟩] : List Segment).all (fun r =>
        Request.writeSegment.lengthFits (body r) && !Request.writeSegment.reservedSet (body r)) = true ∧
      Request.writeSwitch.lengthFits (24 :: layout.switches[5].bytes) = true ∧
      Request.writeSwitch.reservedSet (24 :: layout.switches[5].bytes) = false ∧
      Request.writeGate.lengthFits (16 :: layout.gates[4].bytes) = true ∧
      Request.writeGate.reservedSet (16 :: layout.gates[4].bytes) = false ∧
      ([0, 15, 16, 254, 255] : List Byte).all (fun g => Request.setPairingGate.lengthFits [g]) = true ∧
      ({ layout.switches[5] with group := some 8 } : Switch).group.any (7 < ·) = true ∧
      ({ layout.switches[5] with group := some 8 } : Switch).group.all (· ≤ 254) = true :=
  ⟨fun _ _ _ h => ended_frame _ _ _ _ h, by decide +kernel⟩

theorem witness_SwitchAndGateWritesMoveNodes :
    let unused : Switch := { layout.switches[5] with used := false }
    let noGate : Gate := { layout.gates[4] with used := false }
    (∀ (code : Byte) (b : List Byte) (s : State), b.length ≤ 60 →
        FrameEnded .console code b (ended .console code b s)) ∧
      settled.race = .setup ∧ settled.store = .idle ∧ settled.loop.exchange ≠ none ∧
      layout.switches[5].inRange = true ∧ unused.inRange = true ∧ (settled.map.switch 5).used = true ∧
      (State.reset.map.switch 5).used = false ∧ (settled.map.gate 4).used = true ∧
      (State.reset.map.gate 4).used = false ∧ layout.gates[4].inRange = true ∧ noGate.inRange = true ∧
      ((5 : Byte) :: layout.switches[5].bytes).length ≤ 60 ∧ ((4 : Byte) :: layout.gates[4].bytes).length ≤ 60 :=
  ⟨fun _ _ _ h => ended_frame _ _ _ _ h, by decide +kernel⟩

theorem witness_ValidationIsExact :
    (∀ s : State, FrameEnded .console 0x27 [] (ended .console 0x27 [] s)) ∧
      { settled with store := .loading }.store = .loading ∧ racing.store ≠ .loading :=
  ⟨fun _ => ended_frame _ _ _ _ (by simp), by decide +kernel⟩

theorem witness_WalkFollowsSuccessors :
    layout.resolve { node := 5, kind := .exitThrown } = some (9, 300) ∧
      layout.resolve { node := 0, kind := .entry } = none ∧ SensorKind.entry ≠ .gate := by decide +kernel

theorem witness_MapConstantOutsideSetup :
    (∃ t, exec .cycleEnd racing = .next t) ∧ racing.race ≠ .setup ∧ (∀ x, Instr.cycleEnd ≠ .powerOnReset x) ∧
      (∀ p, Instr.cycleEnd ≠ .chipSelectRise p) ∧
      ∀ p b, Instr.cycleEnd = .masterSendsByte p b → (racing.ports.get p).filler < 16 :=
  ⟨⟨_, rfl⟩, by decide +kernel, by simp, by simp, by simp⟩

theorem witness_ProfileWritten :
    let p := profile 500 60 false
    let off : Profile := { p with enabled := false }
    (∀ (n : Nat) (q : Profile) (s : State),
        FrameEnded .console 0x30 (byte n :: q.bytes) (ended .console 0x30 (byte n :: q.bytes) s)) ∧
      racing.race ≠ .setup ∧ settled.race = .setup ∧ settled.store = .idle ∧ saving ≠ .idle ∧ p.inRange = true ∧
      off.inRange = true ∧ (profile 8000 300 true).inRange = true ∧ (profile 499 60 false).vmax < 500 ∧
      settled.cars[3].profile.enabled = true ∧ settled.cars[3].binding = some 2 ∧
      settled.cars[8].profile.enabled = true ∧ settled.cars[8].binding = none ∧
      settled.cars[0].profile.enabled = false :=
  ⟨fun _ q _ => ended_frame _ _ _ _ (by cases q; simp [Profile.bytes, bytes2]), by decide +kernel⟩

theorem witness_DetectionsTakenByCase :
    let q : Sensor := { node := 28, kind := .gate }
    let entry : Sensor := { node := 5, kind := .entry }
    racing.cars[0].fix = none ∧ racing.cars[3].fix = some { sensor := q, time := 200000 } ∧ q ≠ entry ∧
      racing.cars[3].stale = false ∧ (racing.clock - 200000).toNat ≤ 50000 ∧
      50000 < (({ racing with clock := 250001 } : State).clock - 200000).toNat ∧
      ((200000 : Time) - 200000).toInt ≤ 0 ∧ 1 ≤ ((200001 : Time) - 200000).toInt ∧
      racing.map.fixDistance q { node := 5, kind := .exitThrown } = none ∧
      racing.map.fixDistance q entry = some 3720 ∧
      ({ layout with gates := layout.gates.set 4 { used := true, segment := 2, offset := 800 } } :
        TrackMap).fixDistance q entry = some (-80) ∧
      racing.map.fixDistance entry { node := 5, kind := .exitThrown } = some 480 ∧
      racing.map.resolve entry = some (2, 720) := by decide +kernel

theorem witness_CorrectionArithmetic :
    racing.cars[3].speed ≤ 8000 ∧
      detectionCase racing.map racing.clock racing.cars[3] { node := 5, kind := .entry } 215000 =
        .corrected 3720 15000 := by decide +kernel

theorem witness_EstimatorStep :
    (8000 ≤ 8000 ∧ 1 ≤ 16 ∧ 16 ≤ 16 ∧ 63 ≤ 63 ∧ 8000 ≤ 8000) ∧ estimate 8000 16 63 0 = 8000 ∧
      estimate 500 1 0 1 = 0 := by decide +kernel

theorem witness_IntentsAndAges :
    racing.race = .run ∧ racing.cars[3].binding = some 2 ∧ racing.cars[3].binding ≠ some 12 ∧
      settled.race ≠ .run ∧ racing.resetHeld = false ∧ racing.cars[6].intent = none ∧
      racing.cars[3].intent = some 215110 ∧ reached 215110 215110 = true ∧ reached racing.clock 215110 = false ∧
      racing.cars[0].ageExpiry = none ∧ racing.cars[3].ageExpiry = some 250001 ∧
      reached 250001 250001 = true ∧ reached racing.clock 250001 = false := by decide +kernel

theorem witness_StepDerivation :
    let up : Calibration := { zero := 400, full := 3700, deadband := 100 }
    let down : Calibration := { zero := 3700, full := 400, deadband := 100 }
    [500, 501, 3699, 3700].map (deriveStep up) = [0, 0, 62, 63] ∧
      [3600, 3599, 401, 400].map (deriveStep down) = [0, 0, 62, 63] ∧ up.zero < up.full ∧
      down.full < down.zero := by decide +kernel

theorem witness_WiredRoundResults :
    let scanning : State := { racing with scanner := { Scanner.reset with round := [2, 3] } }
    let h := scanning.handsets[channelHandset 2]
    scanning.resetHeld = false ∧ scanning.scanner.round.head? ≠ some 3 ∧ scanning.scanner.round = [2, 3] ∧
      h.presence = .active ∧ State.reset.handsets[channelHandset 2].presence ≠ .active ∧
      (63 : BitVec 12).toNat < 64 ∧ 64 ≤ (64 : BitVec 12).toNat ∧ h.presenceCount < 2 ∧
      2 ≤ ({ h with presenceCount := 2 } : Handset).presenceCount ∧ h.prevSample ≠ some true ∧
      ({ h with prevSample := some true } : Handset).prevSample = some true ∧ h.button ≠ true ∧
      h.pairing = .bound 3 ∧ State.reset.handsets[channelHandset 2].pairing.car = none ∧
      reached 20 State.reset.scanner.nextRound = true ∧ reached 19 State.reset.scanner.nextRound = false := by
  decide +kernel

theorem witness_RadioSamples :
    let s := racing.modifyHandset 12 fun h => { h with holdEnd := some 215020, lostTime := some 215021 }
    (∀ b : List Byte, b.length ≤ 60 → FrameEnded .radio 0x44 b (ended .radio 0x44 b racing)) ∧
      ([1, 8] : List Nat).all (fun n => Request.postSamples.lengthFits (byte n :: List.replicate (3 * n) 0)) =
        true ∧
      s.resetHeld = false ∧ s.handsets[12].holdEnd = some 215020 ∧ reached s.clock 215020 = true ∧
      s.handsets[12].lostTime = some 215021 ∧ reached s.clock 215021 = false ∧ reached 215021 215021 = true ∧
      s.handsets[12].presence = .active ∧ s.handsets[13].presence ≠ .active ∧ s.handsets[12].button = false ∧
      s.handsets[12].pairing = .bound 7 ∧ s.handsets[13].pairing.car = none ∧
      s.handsets[13].holdEnd.all (fun t => !reached s.clock t) = true :=
  ⟨fun _ h => ended_frame _ _ _ _ h, by decide +kernel⟩

theorem witness_HandsetSettings :
    (∀ (code : Byte) (b : List Byte), b.length ≤ 60 →
        FrameEnded .console code b (ended .console code b racing)) ∧
      racing.store = .idle ∧ saving ≠ .idle ∧
      ([(0, ⟨0, 255, 511⟩), (7, ⟨4095, 3840, 0⟩), (8, ⟨0, 15, 31⟩), (15, ⟨255, 240, 0⟩)] :
        List (HandsetNo × Calibration)).all (fun x => x.2.inRange x.1) = true ∧
      ([(0, ⟨0, 254, 511⟩), (7, ⟨4096, 0, 0⟩), (8, ⟨0, 15, 32⟩), (15, ⟨256, 0, 0⟩)] :
        List (HandsetNo × Calibration)).all (fun x => !x.2.inRange x.1) = true ∧
      (2 : Byte).toNat ≤ 2 ∧ 2 < (3 : Byte).toNat ∧ (3 : Byte).toNat ≤ 3 ∧ 3 < (4 : Byte).toNat ∧
      2 ^ (0 + 1) ≤ (2 : HandsetNo).val ∧ 2 ^ (2 + 1) > (7 : HandsetNo).val :=
  ⟨fun _ _ h => ended_frame _ _ _ _ h, by decide +kernel⟩

theorem witness_SeekRequests :
    let held : State := { State.reset.modifyHandset 2 (fun h => { h with holdTimer := some 120050 }) with clock := 140050 }
    let e : HandsetNo → Seek := fun h => { handset := h, joined := 140050 }
    held.resetHeld = false ∧ held.handsets[2].holdTimer = some 120050 ∧
      reached held.clock (120050 + 20000) = true ∧ reached 140049 (120050 + 20000) = false ∧
      held.handsets[3].holdTimer.all (fun t => !reached held.clock (t + 20000)) = true ∧
      held.handsets[2].pairing = .idle ∧ held.seeks.length < 4 ∧
      4 ≤ ({ held with seeks := [e 8, e 9, e 10, e 11] } : State).seeks.length ∧
      (held.modifyHandset 2 fun h => { h with pairing := .seeking }).handsets[2].pairing = .seeking ∧
      racing.handsets[2].pairing = .bound 3 ∧ racing.store = .idle ∧ saving ≠ .idle ∧
      (2 : HandsetNo) ∉ held.seeks.map Seek.handset ∧
      ({ held with seeks := [e 12, e 2] } : State).seeks = [e 12] ++ e 2 :: [] ∧ (e 2).handset = 2 ∧
      2 ∉ ([e 12] ++ [] : List Seek).map Seek.handset ∧ reached 340050 ((e 2).joined + 200000) = true ∧
      reached 340049 ((e 2).joined + 200000) = false := by decide +kernel

theorem witness_BindAndUnbind :
    let seeking : State := { racing.modifyHandset 4 (fun h => { h with pairing := .seeking }) with
      seeks := [{ handset := 4, joined := 200000 }] }
    (∀ (code : Byte) (b : List Byte) (s : State), b.length ≤ 60 →
        FrameEnded .console code b (ended .console code b s)) ∧
      racing.store = .idle ∧ saving ≠ .idle ∧ racing.handsets[2].pairing.car ≠ none ∧
      racing.cars[3].binding ≠ none ∧ racing.handsets[15].pairing.car = none ∧ racing.cars[8].binding = none ∧
      racing.cars[8].profile.enabled = true ∧ racing.cars[11].profile.enabled = false ∧
      racing.handsets[15].pairing = .idle ∧ seeking.handsets[4].pairing = .seeking ∧
      racing.handsets[2].pairing = .bound 3 ∧ racing.seeks = [] ∧
      seeking.seeks = [{ handset := 4, joined := 200000 }] ∧ seeking.cars[8].binding = none ∧
      seeking.store = .idle := ⟨fun _ _ _ h => ended_frame _ _ _ _ h, by decide +kernel⟩

theorem witness_WindowsComputed :
    let car8 : Fix := { sensor := { node := 5, kind := .exitStraight }, time := 214874 }
    let car6 : Fix := { sensor := { node := 27, kind := .gate }, time := 212000 }
    racing.cars[8].fix = some car8 ∧ racing.cars[6].fix = some car6 ∧
      racing.map.walkFrom car8.sensor (racing.map.switch 5).thrown = none ∧
      racing.map.walkFrom car6.sensor (racing.map.switch 5).thrown = some 2200 ∧ racing.cars[6].stale = false ∧
      (racing.clock - car6.time).toNat ≤ 50000 ∧ 50 ≤ racing.cars[6].speed ∧
      racing.map.walkFrom car8.sensor (racing.map.switch 6).thrown = some (-150) ∧
      (-150 : Int) + ((racing.map.switch 6).zoneLength + racing.cars[8].profile.length : Nat) > 0 ∧
      racing.map.walkFrom { node := 26, kind := .gate } (racing.map.switch 5).thrown = some 1300 ∧
      (trafficWindow racing 6 215400 8).isSome = true ∧ trafficWindow racing 5 215000 7 = none ∧
      (after (.resume .console) (ended .console 0x10 [4] { racing with race := .halt })).cars[6].stale = true ∧
      ([-1, 0, 65535, 65536].map narrow) = [0, 0, 65535, 65535] := by decide +kernel

theorem witness_VerdictByTestsInOrder :
    let verdict : State → Option Verdict := fun s => (settle 3 5 215000 s).verdicts[5].map VerdictRecord.verdict
    let entry : CarNo → Time → Reservation := fun c a =>
      { car := c, entryAt := a, exitAt := a + 100, grantedAt := 214000, staleAt := a + 20100 }
    verdict (racing.modifySwitch 5 fun r => { r with state := .fault }) = some .denySwitch ∧
      verdict (racing.modifyCar 3 fun c => { c with speed := 8000 }) = some .denyLate ∧
      verdict (racing.setList 6 [entry 7 215800]) = some .denyReserved ∧
      verdict (racing.modifyCar 6 fun c => { c with fix := some { sensor := ⟨26, .gate⟩, time := 212000 } }) =
        some .denyTraffic ∧
      verdict (racing.setList 5 [entry 6 232000, entry 7 233000, entry 8 234000, entry 9 235000]) =
        some .denyFull ∧
      verdict racing = some .grant := by decide +kernel

theorem witness_SettlementResults :
    let record : State → Option VerdictRecord := fun s => (settle 3 5 215000 s).verdicts[5]
    let slow := racing.modifyCar 3 fun c => { c with speed := 0 }
    (record racing).map VerdictRecord.verdict = some .grant ∧
      (record (racing.modifyCar 3 fun c => { c with speed := 8000 })).map VerdictRecord.verdict =
        some .denyLate ∧
      (record racing).map VerdictRecord.flagS = some false ∧ (record slow).map VerdictRecord.flagS = some true ∧
      (supersede 3 racing).lists[5] = [] ++ [] := by decide +kernel

theorem witness_ReservationsEnd :
    let e : Reservation :=
      { car := 3, entryAt := 215731, exitAt := 217358, grantedAt := 215000, staleAt := 237358 }
    granted.resetHeld = false ∧ granted.lists[5] = [] ++ e :: [] ∧ e.car = 3 ∧
      (∀ x ∈ granted.lists[5], x.car ≠ 7) ∧ reached 237358 e.staleAt = true ∧ reached 237357 e.staleAt = false ∧
      (∃ x ∈ granted.lists[5], x.car = 3) ∧ (∀ x ∈ granted.lists[5], x.car = 3) ∧
      granted.switches[5].state = .throwing := by decide +kernel

theorem witness_ThrowAndReturnRequests :
    racing.switches[5].state = .straight ∧ granted.switches[5].state = .throwing ∧
      (returnRequest 5 granted).switches[5].state = .returning ∧
      (throwRequest 5 racing).loop.urgent = [5] ∧ (throwRequest 5 racing).switches[5].throwCount = 1 := by
  decide +kernel

theorem witness_PositionReports :
    let locked := racing.modifySwitch 5 fun r => { r with state := .locked }
    ReportedPosition.moving ≠ .invalid ∧ racing.switches[5].state = .straight ∧
      granted.switches[5].state = .throwing ∧ (positionReport 5 .thrown granted).switches[5].state = .thrown ∧
      (positionReport 5 .moving racing).switches[5].state = .returning ∧ locked.switches[5].state = .locked ∧
      locked.switches[5].deadline = none ∧ (positionReport 5 .moving locked).switches[5].deadline ≠ none ∧
      (after (.deadlineExpiry 5) { granted with clock := 215470 }).switches[5].state = .fault := by
  decide +kernel

theorem witness_FaultsAndLocks :
    let locked := racing.modifySwitch 5 fun r => { r with state := .locked }
    let faulted := after (.deadlineExpiry 5) { granted with clock := 215470 }
    (∀ (code : Byte) (n : Nat) (s : State), FrameEnded .console code [byte n] (ended .console code [byte n] s)) ∧
      granted.resetHeld = false ∧ granted.switches[5].deadline = some 215470 ∧
      reached 215470 215470 = true ∧ granted.switches[5].state ≠ .fault ∧
      granted.switches[6].deadline.all (fun t => !reached granted.clock t) = true ∧
      (racing.map.switch 0).used = false ∧ (racing.map.switch 5).used = true ∧
      locked.switches[5].state = .locked ∧ locked.switches[5].confirmed = .straight ∧
      locked.switches[5].deadline = none ∧ faulted.switches[5].state = .fault ∧
      faulted.loop.nodes[switchNode 5].state ≠ .fault ∧
      (faulted.modifyNode 5 fun r => { r with state := .fault }).loop.nodes[switchNode 5].state = .fault ∧
      racing.switches[5].state = .straight :=
  ⟨fun _ _ _ => ended_frame _ _ _ _ (by simp), by decide +kernel⟩

theorem witness_NodeStanding :
    let missing := after .replyTimeout { racing with clock := 215022 }
    let third := takeMiss 5 (takeMiss 5 missing)
    racing.loop.nodes[5].state = .ok ∧ missing.loop.nodes[5].state = .missing ∧
      missing.loop.nodes[5].missCount < 2 ∧ 2 ≤ (takeMiss 5 missing).loop.nodes[5].missCount ∧
      (takeMiss 5 missing).loop.nodes[5].state = .missing ∧ third.loop.nodes[5].state = .fault ∧
      third.loop.nodes[5].goodCount < 3 ∧
      3 ≤ (takeAnswer 5 (takeAnswer 5 (takeAnswer 5 third))).loop.nodes[5].goodCount ∧
      nodeSwitch 26 = none ∧ (5 : NodeNo) = switchNode 5 := by decide +kernel

theorem witness_ExchangesEnd :
    let made : State := { racing with loop := { racing.loop with exchange := some ⟨5, .none, false, none, false⟩ } }
    let left : State := { racing with loop := { racing.loop with
      exchange := some ⟨7, .none, false, some 215022, true⟩ } }
    racing.resetHeld = false ∧ State.reset.loop.exchange = none ∧
      made.loop.exchange = some ⟨5, .none, false, none, false⟩ ∧
      racing.loop.exchange = some ⟨5, .none, false, some 215022, false⟩ ∧
      left.loop.exchange = some ⟨7, .none, false, some 215022, true⟩ ∧ reached racing.clock 215022 = false ∧
      reached 215022 215022 = true := by decide +kernel

theorem witness_ExchangesEnd_sound_reply :
    let r := sighting 5 .straight 3 .entry 20
    let g : NodeReply := ⟨true, 39, none, [⟨15, .gate, 0⟩, ⟨0, .gate, 2000⟩], true⟩
    (r.sound = true ∧ r.address = 5 ∧ r.detections.length ≤ 2 ∧ (∀ d ∈ r.detections, d.kind = .gate ↔ 24 ≤ 5) ∧
        r.position ≠ none ∧ r.position ≠ some .invalid) ∧
      (g.sound = true ∧ g.address = 39 ∧ g.detections.length ≤ 2 ∧
        (∀ d ∈ g.detections, d.kind = .gate ↔ 24 ≤ 39) ∧ g.position = none) ∧
      (5 : NodeNo) = switchNode 5 ∧ 24 ≤ (39 : NodeNo).val := by decide +kernel

theorem witness_DetectionsHandedOn :
    12 ≤ (⟨12, .entry, 0⟩ : Detection).carId ∧ racing.cars[0].profile.enabled = false ∧
      racing.cars[3].profile.enabled = true ∧ (28 : NodeNo) = gateNode 4 ∧ racing.map.pairingGate = some 4 ∧
      (26 : NodeNo) = gateNode 2 ∧ (5 : NodeNo) = switchNode 5 ∧ racing.race = .run ∧
      racing.cars[3].intent ≠ none ∧ racing.cars[6].intent = none := by decide +kernel

theorem witness_PollArbiter :
    let served : State := { granted with loop := { granted.loop with urgent := [5], urgentRun := 2, pointer := 39 } }
    granted.loop.urgent = 5 :: [] ∧ granted.loop.urgentRun < 2 ∧ 2 ≤ served.loop.urgentRun ∧
      racing.loop.urgent = [] ∧ racing.map.polled 5 = true ∧ racing.loop.pointer ≤ 5 ∧
      (∀ b : NodeNo, racing.loop.pointer ≤ b → b < 5 → racing.map.polled b = false) ∧
      (∀ b : NodeNo, served.loop.pointer ≤ b → served.map.polled b = false) ∧
      (∀ b : NodeNo, b < 5 → served.map.polled b = false) ∧
      (∀ a : NodeNo, State.reset.map.polled a = false) ∧ (5 : NodeNo) = switchNode 5 := by decide +kernel

theorem witness_TrackLawKept : TrackLaw stepping := by
  have hx : stepping.loop.exchange = some ⟨5, .setThrown, true, none, false⟩ := by decide +kernel
  refine ⟨?_, ?_, by decide +kernel, by decide +kernel, by decide +kernel, by decide +kernel, by decide +kernel,
    by decide +kernel, ?_, by simp [hx]⟩
  · have h : switchNos.all (fun j => !(stepping.map.switch j).used || stepping.switches[j] ==
        (if j = 5 then { SwitchRun.reset with
          state := .throwing, commanded := .thrown, confirmed := .straight, deadline := some 215470, throwCount := 1 }
        else { SwitchRun.reset with confirmed := .straight })) = true := by decide +kernel
    intro j hj
    have := List.all_eq_true.mp h j (List.mem_finRange j)
    simp only [hj, Bool.not_true, Bool.false_or, beq_iff_eq] at this
    rw [this]
    split
    · exact ⟨rfl, by simp⟩
    · exact ⟨rfl, rfl, rfl⟩
  · unfold SwitchRun.atRest; decide +kernel
  · intro x h hd
    obtain rfl := Option.some.inj (hx.symm.trans h)
    decide +kernel

theorem witness_CycleEndPublishes :
    racing.resetHeld = false ∧ racing.now.hasReached { tu := 215020, quarter := 0 } = true ∧
      racing.now.hasReached { tu := 215020, quarter := 1 } = false ∧
      racing.now.hasReached racing.frames.cycleEnd = true ∧
      { racing with frames := { racing.frames with cycleEnd := ⟨215020, 1⟩ } }.frames.cycleEnd = ⟨215020, 1⟩ := by
  decide +kernel

theorem witness_CycleEndPublishes_ranges : RangeLaw racing := by constructor <;> decide +kernel

theorem witness_FetchTrimAndLimits :
    let published := after .cycleEnd racing
    (∀ (b : List Byte) (s : State), b.length ≤ 60 → FrameEnded .base 0x70 b (ended .base 0x70 b s)) ∧
      (∀ (code : Byte) (b : List Byte) (s : State), b.length ≤ 60 →
        FrameEnded .console code b (ended .console code b s)) ∧
      racing.frames.published = none ∧ published.frames.published.isSome = true ∧
      racing.store = .idle ∧ saving ≠ .idle ∧ 63 < (64 : Byte).toNat ∧ (63 : Byte).toNat ≤ 63 ∧
      racing.race ≠ .setup ∧ racing.limits.guardTime ≠ 2000 ∧ settled.race = .setup ∧
      ([⟨0, 1, 63, 63, true⟩, ⟨2000, 255, 0, 0, false⟩] : List Limits).all Limits.inRange = true ∧
      ([⟨2001, 1, 0, 0, true⟩, ⟨0, 0, 0, 0, true⟩, ⟨0, 1, 64, 0, true⟩, ⟨0, 1, 0, 64, true⟩] : List Limits).all
        (fun l => !l.inRange) = true :=
  ⟨fun _ _ h => ended_frame _ _ _ _ h, fun _ _ _ h => ended_frame _ _ _ _ h, by decide +kernel⟩

theorem witness_SettingsAndStore :
    let accepted := after (.restart .console) (ended .console 0x83 [] racing)
    let image := imageOf settled
    (∀ (code : Byte) (s : State), FrameEnded .console code [] (ended .console code [] s)) ∧
      racing.race ≠ .setup ∧ settled.race = .setup ∧ settled.store = .idle ∧ saving ≠ .idle ∧
      accepted.resetHeld = false ∧ accepted.restartAccepted = true ∧ accepted.ports.console.phase ≠ .taking ∧
      ({ settled with store := saving } : State).store = saving ∧ settled.resetHeld = false ∧
      ([.contents, .contents, .setMarker].zip [0, 1, 0] : List (SaveStage × Nat)).all (fun x =>
        ({ settled with store := .saving ⟨x.1, x.2, 215220⟩ } : State).store == .saving ⟨x.1, x.2, 215220⟩) = true ∧ reached 215220 215220 = true ∧
      reached settled.clock 215220 = false ∧ Image.blank.marker = false ∧ image.marker = true ∧
      image.sum = image.additiveSum ∧ { image with sum := image.sum + 1 }.sum ≠ image.additiveSum ∧
      image.inRange = true ∧ { image with trim := 64 }.inRange = false ∧ image.bindingsSound = true ∧
      { image with bindings := image.bindings.set 8 (some 2) }.bindingsSound = false :=
  ⟨fun _ _ => ended_frame _ _ _ _ (by simp), by decide +kernel⟩

theorem witness_SaveThenLoadRestores :
    RangeLaw settled ∧ PairingLaw settled ∧
      (let s : State := { settled with store := saving }
       s.resetHeld = false ∧ s.store = .saving { stage := .clearMarker, left := 0, confirmBy := 215220 }) ∧
      (let u : State := { State.reset with memory := imageOf settled, store := .loading }
       u.resetHeld = false ∧ u.memory = imageOf settled ∧ u.store = .loading ∧ u.race = .setup) := by
  refine ⟨?_, ?_, by decide +kernel, rfl, rfl, rfl, rfl⟩
  · constructor <;> decide +kernel
  · constructor <;> decide +kernel

end Sys2Proof.Tests
end

section
/-!
SUPPORT. The shape of a step, once and for all: which command a row is, how a request reaches its owner, and
how a property of the next state is proved from the operations a command is made of. Laws over every step and
frames over every command are read off here, command by command, without opening the dispatch again.
-/

namespace Sys2Proof.Machine

/-! ### Rows and commands -/

/-- A request row's command serves the row with its owner. -/
theorem exec_request (x : Request) (p : Port) (s : State) :
    exec (x.instr p) s = serve x p (ownerOf p x) s := by
  cases x <;> rfl

/-- A request that has ended whole and is allowed is answered as its owner answers it. -/
theorem exec_owner {x : Request} {p : Port} {body : List Byte} {s t : State} {r : Reply}
    (h : FrameEnded p x.code body s)
    (owns : x.owns { code := x.code, length := some (byte body.length), body := body } = true)
    (fits : x.lengthFits body = true) (clear : x.reservedSet body = false)
    (allowed : x.allows (portRole p) = true) (answer : ownerOf p x body s = (t, r)) :
    exec (x.instr p) s = .next (withReply p r.status.code r.body t) := by
  rw [exec_request, serve_owner h owns fits clear allowed, answer]

/-- Every command is a request row's or one of the 23 that carry no request of the catalogue. -/
theorem instr_rowCases {motive : Instr → Prop}
    (request : ∀ (x : Request) (p : Port), motive (x.instr p))
    (chipSelectFall : ∀ p, motive (.chipSelectFall p))
    (chipSelectRise : ∀ p, motive (.chipSelectRise p))
    (unknownRequest : ∀ p, motive (.unknownRequest p))
    (masterSendsByte : ∀ p b, motive (.masterSendsByte p b))
    (resetPinAssert : motive .resetPinAssert)
    (powerOnReset : ∀ x, motive (.powerOnReset x))
    (intervalTimerExpiry : motive .intervalTimerExpiry)
    (roundResult : ∀ ch raw pressed, motive (.roundResult ch raw pressed))
    (holdEnd : ∀ h, motive (.holdEnd h))
    (lostTime : ∀ h, motive (.lostTime h))
    (holdTimerExpiry : ∀ h, motive (.holdTimerExpiry h))
    (seekTimerExpiry : ∀ h, motive (.seekTimerExpiry h))
    (intentExpiry : ∀ c, motive (.intentExpiry c))
    (ageExpiry : ∀ c, motive (.ageExpiry c))
    (staleExpiry : ∀ j c, motive (.staleExpiry j c))
    (deadlineExpiry : ∀ j, motive (.deadlineExpiry j))
    (cycleEnd : motive .cycleEnd)
    (pollSent : motive .pollSent)
    (replyReceived : ∀ r, motive (.replyReceived r))
    (replyTimeout : motive .replyTimeout)
    (saveWriteConfirm : motive .saveWriteConfirm)
    (saveWriteTimeout : motive .saveWriteTimeout)
    (loadComplete : motive .loadComplete)
    (i : Instr) : motive i := by
  cases i with
  | identify p => exact request .identify p
  | status p => exact request .status p
  | readEvents p => exact request .readEvents p
  | setEventMask p => exact request .setEventMask p
  | clearFlags p => exact request .clearFlags p
  | clearQueue p => exact request .clearQueue p
  | start p => exact request .start p
  | caution p => exact request .caution p
  | clearCaution p => exact request .clearCaution p
  | halt p => exact request .halt p
  | resume p => exact request .resume p
  | setup p => exact request .setup p
  | setRaceStateBadTarget p => exact request .badTarget p
  | railFault p => exact request .railFault p
  | railClear p => exact request .railClear p
  | writeSegment p => exact request .writeSegment p
  | readSegment p => exact request .readSegment p
  | writeSwitch p => exact request .writeSwitch p
  | readSwitch p => exact request .readSwitch p
  | writeGate p => exact request .writeGate p
  | readGate p => exact request .readGate p
  | setPairingGate p => exact request .setPairingGate p
  | validateMap p => exact request .validateMap p
  | writeProfile p => exact request .writeProfile p
  | readCar p => exact request .readCar p
  | writeCalibration p => exact request .writeCalibration p
  | setScan p => exact request .setScan p
  | readRaw p => exact request .readRaw p
  | readHandset p => exact request .readHandset p
  | postSamples p => exact request .postSamples p
  | bind p => exact request .bind p
  | unbind p => exact request .unbind p
  | readPairing p => exact request .readPairing p
  | lockSwitch p => exact request .lockSwitch p
  | unlockSwitch p => exact request .unlockSwitch p
  | clearSwitch p => exact request .clearSwitch p
  | readNode p => exact request .readNode p
  | fetchFrame p => exact request .fetchFrame p
  | setCycleTrim p => exact request .setCycleTrim p
  | setLimits p => exact request .setLimits p
  | saveImage p => exact request .saveImage p
  | loadImage p => exact request .loadImage p
  | restart p => exact request .restart p
  | chipSelectFall p => exact chipSelectFall p
  | chipSelectRise p => exact chipSelectRise p
  | unknownRequest p => exact unknownRequest p
  | masterSendsByte p b => exact masterSendsByte p b
  | resetPinAssert => exact resetPinAssert
  | powerOnReset x => exact powerOnReset x
  | intervalTimerExpiry => exact intervalTimerExpiry
  | roundResult ch raw pressed => exact roundResult ch raw pressed
  | holdEnd h => exact holdEnd h
  | lostTime h => exact lostTime h
  | holdTimerExpiry h => exact holdTimerExpiry h
  | seekTimerExpiry h => exact seekTimerExpiry h
  | intentExpiry c => exact intentExpiry c
  | ageExpiry c => exact ageExpiry c
  | staleExpiry j c => exact staleExpiry j c
  | deadlineExpiry j => exact deadlineExpiry j
  | cycleEnd => exact cycleEnd
  | pollSent => exact pollSent
  | replyReceived r => exact replyReceived r
  | replyTimeout => exact replyTimeout
  | saveWriteConfirm => exact saveWriteConfirm
  | saveWriteTimeout => exact saveWriteTimeout
  | loadComplete => exact loadComplete

/-! ### From a command to the operations it is made of

`P` below is a property of the next state, with the state before it fixed where the property compares the two. -/

section Keeping

variable {P : State → Prop} {s t : State}

/-- A command under the reset pin's guard leaves what the state had, or what its own effect leaves. -/
theorem whenRunning_keeps {f : State → State} (e : whenRunning s f = .next t) (h : P s)
    (effect : s.resetHeld = false → P (f s)) : P t := by
  obtain rfl := Host.Outcome.next.inj e
  split
  · exact h
  · next held => exact effect (by simpa using held)

/-- An ended frame's answer leaves what its owner leaves, with the reply on the port. -/
theorem answerFrame_keeps {x : Request} {p : Port} {owner : List Byte → State → State × Reply} {f : Frame}
    (h : P s) (reply : ∀ status body u, P u → P (withReply p status body u))
    (effect : x.check (portRole p) f = none → P (owner f.body s).1) : P (answerFrame x p owner f s) := by
  unfold answerFrame
  split
  · exact reply _ _ _ h
  · next passes => exact reply _ _ _ (effect passes)

/-- A request leaves the state as it was, or answers by its owner or with a failed check. -/
theorem serve_keeps {x : Request} {p : Port} {owner : List Byte → State → State × Reply}
    (e : serve x p owner s = .next t) (h : P s) (reply : ∀ status body u, P u → P (withReply p status body u))
    (effect : ∀ body, P (owner body s).1) : P t := by
  obtain rfl | ⟨-, f, -, -, ⟨status, -, rfl⟩ | ⟨-, rfl⟩⟩ := serve_cases e
  · exact h
  · exact reply _ _ _ h
  · exact reply _ _ _ (effect f.body)

/-- A request outside the catalogue leaves the state as it was, or answers UNKNOWN. -/
theorem serveUnknown_keeps {p : Port} (e : serveUnknown p s = .next t) (h : P s)
    (reply : ∀ status body u, P u → P (withReply p status body u)) : P t := by
  refine whenRunning_keeps e h fun _ => ?_
  split
  · exact h
  · split
    · exact h
    · exact reply _ _ _ h

/-- An ended frame taken at the rise of chip select, or after 16 fillers, leaves what its owner leaves. -/
theorem takeEndedFrame_keeps {p : Port} (h : P s)
    (reply : ∀ status body u, P u → P (withReply p status body u))
    (effect : ∀ x body, P (ownerOf p x body s).1) : P (takeEndedFrame p s) := by
  unfold takeEndedFrame
  split
  · exact h
  · split
    · exact answerFrame_keeps h reply fun _ => effect _ _
    · exact reply _ _ _ h

/-- A clocked byte changes its port, after the owner of an ended frame where 16 fillers have passed. -/
theorem clockPort_keeps {p : Port} {b : Byte} (h : P s) (port : ∀ f u, P u → P (u.modifyPort p f))
    (effect : ∀ x body, P (ownerOf p x body s).1) : P (clockPort p b s) := by
  unfold clockPort
  dsimp only
  split
  · exact port _ _ (takeEndedFrame_keeps h (fun _ _ u => port _ u) effect)
  · exact port _ _ h

/-- The rise of chip select changes its port, after the owner of an ended frame, and may be a reset. -/
theorem raiseSelect_keeps {p : Port} (h : P s) (port : ∀ f u, P u → P (u.modifyPort p f))
    (effect : ∀ x body, P (ownerOf p x body s).1) (reset : ∀ x u, P (powerOn x u)) : P (raiseSelect p s) := by
  unfold raiseSelect
  dsimp only
  split
  · exact reset _ _
  · exact port _ _ (takeEndedFrame_keeps h (fun _ _ u => port _ u) effect)

end Keeping

/-! ### The shapes of owners -/

theorem accept_state (s : State) : (accept s).1 = s := rfl

section Owners

variable {P : State → Prop} {s : State}

theorem mapWrite_keeps {inRange : Bool} {store : State → State} (h : P s)
    (stored : s.race = .setup → inRange = true → P (store s)) : P (mapWrite inRange store s).1 := by
  obtain ⟨-, e⟩ | ⟨-, -, e⟩ | ⟨-, -, -, e⟩ | ⟨setup, -, fits, e⟩ := mapWrite_cases inRange store s <;> rw [e]
  · exact h
  · exact h
  · exact h
  · exact stored setup fits

theorem enterRun_keeps {enter : State → State} (h : P s) (validated : ∀ b, P { s with mapValid := b })
    (entered : P (enter { s with mapValid := true })) : P (enterRun enter s).1 := by
  obtain ⟨-, e⟩ | ⟨-, -, e⟩ | ⟨-, -, -, e⟩ | ⟨-, -, -, e⟩ := enterRun_cases enter s <;> rw [e]
  · exact h
  · exact validated false
  · exact validated true
  · exact entered

theorem storeRequest_keeps {begin_ : State → State} (h : P s) (begun : P (begin_ s)) :
    P (storeRequest begin_ s).1 := by
  obtain ⟨-, e⟩ | ⟨-, -, e⟩ | ⟨-, -, e⟩ := storeRequest_cases begin_ s <;> rw [e]
  · exact h
  · exact h
  · exact begun

theorem switchRequest_keeps {act : SwitchNo → State → State × Reply} {body : List Byte} (h : P s)
    (acted : ∀ j, P (act j s).1) : P (switchRequest act body s).1 := by
  unfold switchRequest
  split
  · split
    · split
      · exact acted _
      · exact h
    · exact h
  · exact h

end Owners

/-! ### Owners that only report -/

section Reading

variable (body : List Byte) (s : State)

theorem readSegment_state : (readSegment body s).1 = s := by
  unfold readSegment; split <;> [split; skip] <;> rfl

theorem readSwitch_state : (readSwitch body s).1 = s := by
  unfold readSwitch; split <;> [split; skip] <;> rfl

theorem readGate_state : (readGate body s).1 = s := by
  unfold readGate; split <;> [split; skip] <;> rfl

theorem readCar_state : (readCar body s).1 = s := by
  unfold readCar; split <;> [split; skip] <;> rfl

theorem readHandset_state : (readHandset body s).1 = s := by
  unfold readHandset; split <;> [split; skip] <;> rfl

theorem readNode_state : (readNode body s).1 = s := by
  unfold readNode; split <;> [split; skip] <;> rfl

end Reading

/-! ### The footprints of the switch requests -/

/-- The switch requests change at most what SWC and LCA do to each other (R122 to R124). -/
theorem lockSwitch_switchFootprint (j : SwitchNo) (s : State) : SwitchFootprint s (lockSwitch j s).1 := by
  have locked (u : State) : SwitchFootprint u (becomeLocked j u) :=
    (changeState_switchFootprint j _ _ u).trans (revokeList_switchFootprint _ j _)
  unfold lockSwitch
  split
  · exact locked s
  · exact (commandPosition_switchFootprint j _ s).trans (locked _)
  · exact (commandPosition_switchFootprint j _ s).trans (locked _)
  · exact (commandPosition_switchFootprint j _ s).trans (locked _)
  all_goals exact .refl s

theorem unlockSwitch_switchFootprint (j : SwitchNo) (s : State) : SwitchFootprint s (unlockSwitch j s).1 := by
  unfold unlockSwitch
  dsimp only
  split
  · split
    · exact changeState_switchFootprint j _ _ s
    · exact changeState_switchFootprint j _ _ s
  all_goals exact .refl s

theorem clearSwitch_switchFootprint (j : SwitchNo) (s : State) : SwitchFootprint s (clearSwitch j s).1 := by
  unfold clearSwitch
  split
  · split
    · exact .refl s
    · exact (commandPosition_switchFootprint j _ s).trans (changeState_switchFootprint j _ _ _)
  all_goals exact .refl s

/-! ### From commands to steps -/

/-- What every command, every choice among what is due and the passing of time keep, every step keeps. -/
theorem keptByEveryStep_of_exec {P : State → Prop}
    (command : ∀ i s t, P s → exec i s = .next t → P t)
    (pending : ∀ s rest, P s → P { s with pending := rest })
    (picks : ∀ s n, P s → P { s with picks := n })
    (time : ∀ s, P s → P (passQuarter s)) : KeptByEveryStep P := by
  intro s t h e
  unfold step at e
  split at e
  · exact command _ _ _ (pending _ _ h) e
  · unfold idle at e
    split at e
    · next c s' chosen =>
      refine command _ _ _ ?_ e
      unfold nextDue at chosen
      split at chosen
      · simp at chosen
      · split at chosen
        · simp at chosen
        · obtain ⟨-, rfl⟩ := Prod.mk.inj (Option.some.inj chosen)
          exact h
        · obtain ⟨-, rfl⟩ := Prod.mk.inj (Option.some.inj chosen)
          exact picks _ _ h
    · obtain rfl := Host.Outcome.next.inj e
      unfold idleTime
      split
      · exact h
      · exact time _ h

end Sys2Proof.Machine
end

section
/-!
O34. Every step keeps the settings, the estimates and the steps within their ranges. A record's ranges are one
predicate, kept by each change of a record; an operation keeps the law because it changes records only by such
changes, and commands keep it because they are made of such operations.
-/

namespace Sys2Proof.Machine

/-! ### Records in range -/

/-- A car record's part of the range law (R20, R23, R38). -/
structure Car.InRange (c : Car) : Prop where
  profile : c.profile.inRange = true
  speed : c.speed ≤ 8000
  lastStep : c.lastStep ≤ 63

/-- A handset record's part of the range law (R42, R52). -/
structure Handset.InRange (h : HandsetNo) (r : Handset) : Prop where
  calibration : r.calibration.inRange h = true
  step : r.step ≤ 63

theorem Profile.inRange_iff (p : Profile) : p.inRange = true ↔
    500 ≤ p.vmax ∧ p.vmax ≤ 8000 ∧ 1 ≤ p.response ∧ p.response ≤ 16 ∧ 60 ≤ p.length ∧ p.length ≤ 300 := by
  simp [Profile.inRange, and_assoc]

theorem Limits.inRange_iff (l : Limits) : l.inRange = true ↔
    l.guardTime ≤ 2000 ∧ 1 ≤ l.intentHold ∧ l.intentHold ≤ 255 ∧ l.cautionStep ≤ 63 ∧ l.paceStep ≤ 63 := by
  simp [Limits.inRange, and_assoc]

/-- A check of a whole table holds when it holds of every entry. -/
theorem table_all {α : Type} {n : Nat} (v : Vector α n) (p : α → Bool) :
    v.toList.all p = true ↔ ∀ i : Fin n, p v[i] = true := by
  simp [Fin.forall_iff]

theorem TrackMap.inRange_iff (m : TrackMap) : m.inRange = true ↔
    (∀ n : Fin 64, (m.segments[n]).inRange = true) ∧ (∀ j : SwitchNo, (m.switches[j]).inRange = true) ∧
      (∀ g : Fin 16, (m.gates[g]).inRange = true) ∧ pairingGateInRange m.pairingGate = true := by
  simp only [TrackMap.inRange, Bool.and_eq_true, and_assoc, table_all]

/-! ### Arithmetic of steps and speeds -/

/-- A derived step lies within 0–63 (R53). -/
theorem travelStep_le (x full deadband : Int) : travelStep x full deadband ≤ 63 := by
  unfold travelStep
  split
  · omega
  · split
    · omega
    · next hx hf =>
      have span : 0 < full - deadband := by omega
      have : (x - deadband) * 63 / (full - deadband) ≤ 63 :=
        Int.ediv_le_of_le_mul span (by nlinarith)
      omega

theorem deriveStep_le (k : Calibration) (x : Nat) : deriveStep k x ≤ 63 := by
  unfold deriveStep
  split <;> exact travelStep_le _ _ _

/-- A corrected estimate is limited to 8,000 (R30). -/
theorem correctedSpeed_le (old measured : Nat) : correctedSpeed old measured ≤ 8000 := min_le_right _ _

/-- The speed a step settles at is at most the profile's largest (R34). -/
theorem targetSpeed_le {vmax step : Nat} (h : step ≤ 63) : targetSpeed vmax step ≤ vmax :=
  Nat.div_le_of_le_mul (by nlinarith)

/-- One estimator step never leaves the interval between the estimate and its target (R34). -/
theorem estimate_le {vmax response step speed : Nat} (hr : response ≤ 16) :
    estimate vmax response step speed ≤ max speed (targetSpeed vmax step) := by
  unfold estimate
  generalize targetSpeed vmax step = target
  dsimp only
  set delta : Int := (target : Int) - speed with hd
  obtain falling | rising := le_or_gt delta 0
  · have product : 0 ≤ -delta * response := mul_nonneg (by omega) (by omega)
    have moves : (delta * response).tdiv 16 ≤ 0 := by
      rw [← neg_neg delta, Int.neg_mul, Int.neg_tdiv, Int.tdiv_eq_ediv_of_nonneg product]
      omega
    have sign : delta.sign ≤ 0 := Int.sign_nonpos_iff.mpr falling
    split <;> omega
  · have product : 0 ≤ delta * response := mul_nonneg rising.le (by omega)
    have moves : (delta * response).tdiv 16 ≤ delta := by
      rw [Int.tdiv_eq_ediv_of_nonneg product]
      exact Int.ediv_le_of_le_mul (by decide) (mul_le_mul_of_nonneg_left (by omega) rising.le)
    have sign : delta.sign = 1 := Int.sign_eq_one_of_pos rising
    split <;> omega

/-! ### Changes of a record -/

theorem Car.InRange.setFix {c : Car} (h : c.InRange) (q : Sensor) (t : Time) : (c.setFix q t).InRange :=
  ⟨h.profile, h.speed, h.lastStep⟩

/-- A published step leaves the record in range: the estimate moves between itself and its target (R34, R38). -/
theorem Car.InRange.takeStep {c : Car} (h : c.InRange) {step : Nat} (hs : step ≤ 63) :
    (c.takeStep step).InRange := by
  refine ⟨h.profile, ?_, hs⟩
  obtain ⟨-, vmax, -, response, -, -⟩ := c.profile.inRange_iff.mp h.profile
  unfold Car.takeStep
  dsimp only
  split
  · exact (estimate_le response).trans (max_le h.speed ((targetSpeed_le hs).trans vmax))
  · exact h.speed

theorem Car.InRange.loaded {c : Car} (h : c.InRange) {p : Profile} (hp : p.inRange = true)
    (binding : Option HandsetNo) : (c.loaded p binding).InRange := by
  refine ⟨hp, ?_, h.lastStep⟩
  unfold Car.loaded
  dsimp only
  split
  · exact h.speed
  · exact Nat.zero_le _

theorem Handset.InRange.makeAbsent {h : HandsetNo} {r : Handset} (k : r.InRange h) : r.makeAbsent.InRange h :=
  ⟨k.calibration, Nat.zero_le _⟩

theorem Handset.InRange.takeStep {h : HandsetNo} {r : Handset} (k : r.InRange h) {step : Nat} (hs : step ≤ 63) :
    (r.takeStep step).InRange h :=
  ⟨k.calibration, hs⟩

/-! ### Changes of the state -/

section Operations

variable {s t : State}

theorem RangeLaw.car (h : RangeLaw s) (c : CarNo) : s.cars[c].InRange :=
  ⟨h.profiles c, h.speeds c, h.lastSteps c⟩

theorem RangeLaw.handset (h : RangeLaw s) (n : HandsetNo) : s.handsets[n].InRange n :=
  ⟨h.calibrations n, h.steps n⟩

/-- A state that differs elsewhere only meets the law too. -/
theorem RangeLaw.elsewhere (h : RangeLaw s)
    (e : t = { t with map := s.map, cars := s.cars, handsets := s.handsets, scanner := s.scanner,
                      frames := s.frames, limits := s.limits }) : RangeLaw t := by
  rw [e]
  exact ⟨h.map, h.profiles, h.calibrations, h.scan, h.trim, h.limits, h.speeds, h.steps, h.lastSteps⟩

theorem RangeLaw.withMap (h : RangeLaw s) {m : TrackMap} (k : m.inRange = true) :
    RangeLaw { s with map := m } :=
  ⟨k, h.profiles, h.calibrations, h.scan, h.trim, h.limits, h.speeds, h.steps, h.lastSteps⟩

theorem RangeLaw.withCars (h : RangeLaw s) {v : Vector Car 12} (k : ∀ c : CarNo, v[c].InRange) :
    RangeLaw { s with cars := v } :=
  ⟨h.map, fun c => (k c).profile, h.calibrations, h.scan, h.trim, h.limits, fun c => (k c).speed, h.steps,
    fun c => (k c).lastStep⟩

theorem RangeLaw.withHandsets (h : RangeLaw s) {v : Vector Handset 16} (k : ∀ n : HandsetNo, v[n].InRange n) :
    RangeLaw { s with handsets := v } :=
  ⟨h.map, h.profiles, fun n => (k n).calibration, h.scan, h.trim, h.limits, h.speeds, fun n => (k n).step,
    h.lastSteps⟩

theorem RangeLaw.withScanner (h : RangeLaw s) {x : Scanner} (k : scanInRange x.setCode x.intervalCode = true) :
    RangeLaw { s with scanner := x } :=
  ⟨h.map, h.profiles, h.calibrations, k, h.trim, h.limits, h.speeds, h.steps, h.lastSteps⟩

theorem RangeLaw.withFrames (h : RangeLaw s) {x : FrameBuilder} (k : x.trim ≤ 63) :
    RangeLaw { s with frames := x } :=
  ⟨h.map, h.profiles, h.calibrations, h.scan, k, h.limits, h.speeds, h.steps, h.lastSteps⟩

theorem RangeLaw.withLimits (h : RangeLaw s) {l : Limits} (k : l.inRange = true) :
    RangeLaw { s with limits := l } :=
  ⟨h.map, h.profiles, h.calibrations, h.scan, h.trim, k, h.speeds, h.steps, h.lastSteps⟩

theorem RangeLaw.updateAllCars (h : RangeLaw s) {f : CarNo → Car → Car}
    (k : ∀ c, (s.cars[c]).InRange → (f c s.cars[c]).InRange) : RangeLaw { s with cars := updateAll s.cars f } :=
  h.withCars fun c => by
    rw [updateAll_get]
    exact k c (h.car c)

theorem RangeLaw.modifyCar (h : RangeLaw s) (c : CarNo) {f : Car → Car}
    (k : ∀ r : Car, r.InRange → (f r).InRange) : RangeLaw (s.modifyCar c f) :=
  h.withCars fun d => by
    rw [update_get]
    split
    · exact k _ (h.car d)
    · exact h.car d

theorem RangeLaw.modifyHandset (h : RangeLaw s) (n : HandsetNo) {f : Handset → Handset}
    (k : ∀ r : Handset, r.InRange n → (f r).InRange n) : RangeLaw (s.modifyHandset n f) :=
  h.withHandsets fun m => by
    rw [update_get]
    split
    · next same => subst same; exact k _ (h.handset m)
    · exact h.handset m

theorem RangeLaw.raise (h : RangeLaw s) (e : Event) : RangeLaw (raise e s) := h.elsewhere rfl

theorem RangeLaw.modifyPort (h : RangeLaw s) (p : Port) (f : PortState → PortState) :
    RangeLaw (s.modifyPort p f) := h.elsewhere rfl

theorem RangeLaw.switches (h : RangeLaw s) (e : SwitchFootprint s t) : RangeLaw t := by
  rw [e]
  exact h.elsewhere rfl

theorem RangeLaw.used (h : RangeLaw s) (e : UseFootprint s t) : RangeLaw t := by
  rw [e]
  exact h.elsewhere rfl

theorem RangeLaw.arbitrate (h : RangeLaw s) : RangeLaw (arbitrate s) := by
  rw [arbitrate_footprint]
  exact h.elsewhere rfl

theorem RangeLaw.wakeLoop (h : RangeLaw s) : RangeLaw (wakeLoop s) := by
  rw [wakeLoop_footprint]
  exact h.elsewhere rfl

theorem RangeLaw.foldl {α : Type} (h : RangeLaw s) (op : State → α → State)
    (k : ∀ u a, RangeLaw u → RangeLaw (op u a)) (l : List α) : RangeLaw (l.foldl op s) :=
  List.foldlRecOn l op h fun u hu a _ => k u a hu

/-! ### Pairing -/

theorem RangeLaw.setPairing (h : RangeLaw s) (n : HandsetNo) (x : PairingState) :
    RangeLaw (setPairing n x s) :=
  h.modifyHandset n fun _ r => ⟨r.calibration, r.step⟩

theorem RangeLaw.leaveQueue (h : RangeLaw s) (n : HandsetNo) : RangeLaw (leaveQueue n s) := h.elsewhere rfl

theorem RangeLaw.makeBinding (h : RangeLaw s) (n : HandsetNo) (c : CarNo) (source : BindSource) :
    RangeLaw (makeBinding n c source s) := by
  refine RangeLaw.raise (RangeLaw.modifyCar (h.setPairing n _) c ?_) _
  exact fun _ r => ⟨r.profile, r.speed, r.lastStep⟩

theorem RangeLaw.dissolve (h : RangeLaw s) (n : HandsetNo) (c : CarNo) (cause : UnbindCause) :
    RangeLaw (dissolve n c cause s) := by
  refine RangeLaw.raise (RangeLaw.modifyCar (h.setPairing n _) c ?_) _
  exact fun _ r => ⟨r.profile, r.speed, r.lastStep⟩

theorem RangeLaw.joinQueue (h : RangeLaw s) (n : HandsetNo) : RangeLaw (joinQueue n s) :=
  (h.setPairing n .seeking).elsewhere rfl

theorem RangeLaw.seekRequest (h : RangeLaw s) (n : HandsetNo) : RangeLaw (seekRequest n s) := by
  unfold Machine.seekRequest
  split
  · exact h.raise _
  · split
    · exact (h.dissolve n _ _).joinQueue n
    · exact h.joinQueue n
    · exact h.joinQueue n

theorem RangeLaw.pairingGateDetection (h : RangeLaw s) (c : CarNo) : RangeLaw (pairingGateDetection c s) := by
  unfold Machine.pairingGateDetection
  split
  · exact h
  · split
    · exact (h.leaveQueue _).makeBinding _ c _
    · exact h

/-! ### Handsets -/

theorem RangeLaw.armRequest (h : RangeLaw s) (n : HandsetNo) (c : CarNo) : RangeLaw (armRequest n c s) := by
  unfold Machine.armRequest
  split
  · exact h.modifyCar c fun _ r => ⟨r.profile, r.speed, r.lastStep⟩
  · exact h

theorem RangeLaw.takeButton (h : RangeLaw s) (n : HandsetNo) (level : Bool) :
    RangeLaw (takeButton n level s) := by
  unfold Machine.takeButton
  dsimp only
  split
  · exact h
  · split
    · have pressed := h.modifyHandset n (f := fun r =>
        { r with button := true, holdTimer := if r.step = 0 then some s.clock else r.holdTimer })
        fun _ r => ⟨r.calibration, r.step⟩
      split
      · exact pressed.armRequest n _
      · exact pressed
      · exact pressed
    · exact h.modifyHandset n fun _ r => ⟨r.calibration, r.step⟩

theorem RangeLaw.debounceButton (h : RangeLaw s) (n : HandsetNo) (sample : Bool) :
    RangeLaw (debounceButton n sample s) := by
  unfold Machine.debounceButton
  refine RangeLaw.modifyHandset ?_ n fun _ r => ⟨r.calibration, r.step⟩
  split
  · exact h.takeButton n sample
  · exact h

theorem RangeLaw.takeWiredResult (h : RangeLaw s) (n : HandsetNo) (raw : Nat) (sample : Bool) :
    RangeLaw (takeWiredResult n raw sample s) := by
  unfold Machine.takeWiredResult
  have seen := h.modifyHandset n (f := fun r => { r with lastSample := s.clock })
    fun _ r => ⟨r.calibration, r.step⟩
  have counted {u : State} (hu : RangeLaw u) (k : Nat → Nat) :
      RangeLaw (u.modifyHandset n fun r => { r with presenceCount := k r.presenceCount }) :=
    hu.modifyHandset n fun _ r => ⟨r.calibration, r.step⟩
  dsimp only
  split
  · split
    · refine RangeLaw.debounceButton (RangeLaw.modifyHandset seen n ?_) n sample
      exact fun _ r => ⟨r.calibration, deriveStep_le _ _⟩
    · split
      · exact (counted seen (· + 1)).debounceButton n sample
      · exact (seen.modifyHandset n fun _ r => r.makeAbsent).raise _
  all_goals
    split
    · exact counted seen fun _ => 0
    · split
      · exact counted seen (· + 1)
      · refine RangeLaw.raise (RangeLaw.modifyHandset seen n ?_) _
        exact fun _ r => ⟨r.calibration, deriveStep_le _ _⟩

theorem RangeLaw.takeSample (h : RangeLaw s) (n : HandsetNo) (throttle : Nat) (pressed : Bool) :
    RangeLaw (takeSample n throttle pressed s) := by
  unfold Machine.takeSample
  have seen := h.modifyHandset n (f := fun r => { r with
    lastSample := s.clock, holdEnd := some (later s.clock 2500), lostTime := some (later s.clock 5000) })
    fun _ r => ⟨r.calibration, r.step⟩
  dsimp only
  refine RangeLaw.takeButton (RangeLaw.modifyHandset ?_ n fun _ r => r.takeStep (deriveStep_le _ _)) n pressed
  split
  · exact seen
  · refine RangeLaw.raise (RangeLaw.modifyHandset seen n ?_) _
    exact fun _ r => ⟨r.calibration, r.step⟩

theorem RangeLaw.takeSamples (h : RangeLaw s) (samples : List Byte) : RangeLaw (takeSamples samples s) := by
  induction samples, s using Machine.takeSamples.induct with
  | case1 s n throttle pressed rest ih =>
    rw [Machine.takeSamples]
    apply ih
    split
    · exact h.takeSample _ _ _
    · exact h
  | case2 samples s short =>
    rw [Machine.takeSamples]
    · exact h
    · exact short

theorem RangeLaw.leaveScanSet (h : RangeLaw s) (n : HandsetNo) : RangeLaw (leaveScanSet n s) := by
  have absent := h.modifyHandset n (f := Handset.makeAbsent) fun _ r => r.makeAbsent
  unfold Machine.leaveScanSet
  dsimp only
  split
  · exact absent.raise _
  · exact absent

theorem RangeLaw.restartScanner (h : RangeLaw s) {setCode intervalCode : Nat}
    (k : scanInRange setCode intervalCode = true) : RangeLaw (restartScanner setCode intervalCode s) :=
  h.withScanner k

theorem RangeLaw.applyScan (h : RangeLaw s) {setCode intervalCode : Nat}
    (k : scanInRange setCode intervalCode = true) : RangeLaw (applyScan setCode intervalCode s) :=
  (h.restartScanner k).foldl _ (fun _ n u => u.leaveScanSet n) _

/-! ### Detections and the loop -/

theorem RangeLaw.takeDetection (h : RangeLaw s) (k : CarNo) (q : Sensor) (t : Time) :
    RangeLaw (takeDetection k q t s) := by
  unfold Machine.takeDetection
  split
  · exact h.modifyCar k fun _ r => r.setFix q t
  · exact h.modifyCar k fun _ r => ⟨r.profile, correctedSpeed_le _ _, r.lastStep⟩
  · refine RangeLaw.raise (RangeLaw.modifyCar h k ?_) _
    exact fun _ r => ⟨r.profile, r.speed, r.lastStep⟩

theorem RangeLaw.handOnVerdict (h : RangeLaw s) (v : VerdictRecord) : RangeLaw (handOnVerdict v s) := by
  refine RangeLaw.switches ?_ (carryOutGrant_switchFootprint v _)
  rw [saturationReport_footprint]
  exact h.elsewhere rfl

theorem RangeLaw.entryDetection (h : RangeLaw s) (k : CarNo) (j : SwitchNo) (t : Time) :
    RangeLaw (entryDetection k j t s) := by
  unfold Machine.entryDetection
  split
  · refine RangeLaw.handOnVerdict (RangeLaw.switches ?_ (supersede_switchFootprint k _)) _
    exact h.modifyCar k fun _ r => ⟨r.profile, r.speed, r.lastStep⟩
  · exact h

theorem RangeLaw.takePassage (h : RangeLaw s) (k : CarNo) (j : SwitchNo) (thrownExit : Bool) :
    RangeLaw (takePassage k j thrownExit s) := by
  unfold Machine.takePassage
  have removed := h.switches (setList_switchFootprint j (withoutCar s.lists[j] k) s)
  split
  · dsimp only
    split
    · exact removed.switches (returnIfEmpty_switchFootprint j _)
    · refine RangeLaw.switches (RangeLaw.raise ?_ _) (returnIfEmpty_switchFootprint j _)
      exact RangeLaw.modifyCar removed k fun _ r => ⟨r.profile, r.speed, r.lastStep⟩
  · split
    · exact h.raise _
    · exact h

theorem RangeLaw.passage (h : RangeLaw s) (k : CarNo) (j : SwitchNo) (thrownExit : Bool) :
    RangeLaw (passage k j thrownExit s) :=
  RangeLaw.takePassage (h.switches (modifySwitch_switchFootprint j _ s)) k j thrownExit

theorem RangeLaw.handOn (h : RangeLaw s) (k : CarNo) (q : Sensor) (t : Time) : RangeLaw (handOn k q t s) := by
  unfold Machine.handOn
  split
  · split
    · exact h.entryDetection k _ t
    · exact h
  · exact h.passage k _ _
  · exact h.passage k _ _
  · split
    · exact h.pairingGateDetection k
    · exact h
  · exact h

theorem RangeLaw.takeRecord (h : RangeLaw s) (a : NodeNo) (d : Detection) : RangeLaw (takeRecord a s d) := by
  unfold Machine.takeRecord
  split
  · dsimp only
    split
    · exact (h.takeDetection _ _ _).handOn _ _ _
    · exact h.raise _
  · exact h.raise _

theorem RangeLaw.takeRecords (h : RangeLaw s) (a : NodeNo) (r : NodeReply) : RangeLaw (takeRecords a r s) := by
  have records : RangeLaw ((oldestFirst r.detections).foldl (Machine.takeRecord a) s) :=
    h.foldl _ (fun _ d u => u.takeRecord a d) _
  unfold Machine.takeRecords
  dsimp only
  split
  · exact records.raise _
  · exact records

theorem RangeLaw.tellNews (h : RangeLaw s) (a : NodeNo) (news : NodeNews) : RangeLaw (tellNews a news s) := by
  unfold Machine.tellNews
  split
  · exact h
  · unfold nodeFaults
    dsimp only
    split
    · exact (h.raise _).switches (enterFault_switchFootprint _ _ _)
    · exact h.raise _
  · exact h.raise _

theorem RangeLaw.modifyNode (h : RangeLaw s) (a : NodeNo) (f : NodeRecord → NodeRecord) :
    RangeLaw (s.modifyNode a f) := h.elsewhere rfl

theorem RangeLaw.takeMiss (h : RangeLaw s) (a : NodeNo) : RangeLaw (takeMiss a s) :=
  (h.modifyNode a _).tellNews a _

theorem RangeLaw.takeReply (h : RangeLaw s) (a : NodeNo) (r : NodeReply) : RangeLaw (takeReply a r s) := by
  have answered : RangeLaw (takeAnswer a s) := (h.modifyNode a _).tellNews a _
  unfold Machine.takeReply
  dsimp only
  refine RangeLaw.takeRecords ?_ a r
  split
  · exact answered.switches (takePosition_switchFootprint _ _ _)
  · exact answered

/-- An exchange's end keeps the law when its outcome does. -/
theorem RangeLaw.endExchange (h : RangeLaw s) (x : Exchange) {outcome : State → State}
    (k : RangeLaw (outcome s)) : RangeLaw (endExchange x outcome s) := by
  unfold Machine.endExchange
  refine RangeLaw.arbitrate ?_
  split
  · exact h
  · rw [moveServed_footprint]
    exact k.elsewhere rfl

/-! ### Cycle ends and loads -/

/-- A published step lies within 0–63 (R154). -/
theorem RangeLaw.publishedStep_le (h : RangeLaw s) (c : CarNo) : publishedStep s c ≤ 63 := by
  obtain ⟨-, -, -, caution, pace⟩ := s.limits.inRange_iff.mp h.limits
  unfold publishedStep
  dsimp only
  split
  · omega
  · split
    · omega
    · omega
    · split
      · exact h.steps _
      · split <;> omega
    · exact (min_le_right _ _).trans caution

theorem RangeLaw.publishFrame (h : RangeLaw s) : RangeLaw (publishFrame s) := by
  have cars (c : CarNo) : (updateAll s.cars fun c r => r.takeStep (publishedStep s c))[c].InRange := by
    rw [updateAll_get]
    exact (h.car c).takeStep (h.publishedStep_le c)
  exact ⟨h.map, fun c => (cars c).profile, h.calibrations, h.scan, h.trim, h.limits, fun c => (cars c).speed,
    h.steps, fun c => (cars c).lastStep⟩

theorem RangeLaw.loadMap (h : RangeLaw s) {m : TrackMap} (k : m.inRange = true) : RangeLaw (loadMap m s) := by
  have stored : RangeLaw { s with map := m, mapValid := false } := (h.withMap k).elsewhere rfl
  unfold Machine.loadMap
  dsimp only
  refine RangeLaw.foldl (RangeLaw.foldl stored _ ?_ _) _ ?_ _
  · exact fun u j hu => hu.used (followSwitchUse_useFootprint _ _ j u)
  · intro u g hu
    rw [followGateUse_footprint]
    exact hu.elsewhere rfl

theorem Image.inRange_iff (i : Image) : i.inRange = true ↔
    i.map.inRange = true ∧ (∀ c : CarNo, i.profiles[c].inRange = true) ∧
      (∀ c : CarNo, i.bindings[c].all (· ≤ 15) = true) ∧
      (∀ n : HandsetNo, i.calibrations[n].inRange n = true) ∧ scanInRange i.scanSet i.scanInterval = true ∧
      i.trim ≤ 63 ∧ i.limits.inRange = true := by
  simp only [Image.inRange, calibrationsInRange, Bool.and_eq_true, and_assoc, table_all, decide_eq_true_eq,
    List.all_eq_true (l := handsetNos), mem_handsetNos, forall_const]

/-- A load that passes check 3 brings every setting in range (R200, R201). -/
theorem RangeLaw.applyLoad (h : RangeLaw s) {i : Image} (k : i.inRange = true) : RangeLaw (applyLoad i s) := by
  obtain ⟨map, profiles, -, calibrations, scan, trim, limits⟩ := i.inRange_iff.mp k
  unfold Machine.applyLoad
  have mapped := h.loadMap map
  generalize Machine.loadMap i.map s = u at mapped ⊢
  have cars (c : CarNo) : (updateAll u.cars fun c r => r.loaded i.profiles[c] (i.binding c))[c].InRange := by
    rw [updateAll_get]
    exact (mapped.car c).loaded (profiles c) _
  have handsets (n : HandsetNo) :
      (updateAll u.handsets fun h r => r.loaded i.calibrations[h] (i.boundCar h))[n].InRange n := by
    rw [updateAll_get]
    exact ⟨calibrations n, Nat.zero_le _⟩
  refine RangeLaw.wakeLoop (RangeLaw.raise (RangeLaw.restartScanner ?_ scan) _)
  exact ⟨mapped.map, fun c => (cars c).profile, fun n => (handsets n).calibration, mapped.scan, trim, limits,
    fun c => (cars c).speed, fun n => (handsets n).step, fun c => (cars c).lastStep⟩

end Operations

/-! ### Owners of requests -/

section Owners

variable {s : State}

theorem RangeLaw.changeRace (h : RangeLaw s) (x : RaceState) (cause : RaceCause) :
    RangeLaw (changeRace x cause s) := h.elsewhere rfl

theorem RangeLaw.validated (h : RangeLaw s) (b : Bool) : RangeLaw { s with mapValid := b } := h.elsewhere rfl

theorem RangeLaw.clearIntents (h : RangeLaw s) : RangeLaw (clearIntents s) :=
  h.updateAllCars fun _ r => ⟨r.profile, r.speed, r.lastStep⟩

theorem RangeLaw.haltRace (h : RangeLaw s) (cause : RaceCause) : RangeLaw (haltRace cause s) :=
  (h.changeRace .halt cause).clearIntents.switches (haltRace_switchFootprint cause s)

theorem RangeLaw.warmRestart (h : RangeLaw s) : RangeLaw (warmRestart s) :=
  (h.updateAllCars fun _ r => ⟨r.profile, Nat.zero_le _, r.lastStep⟩ :
    RangeLaw { s with cars := updateAll s.cars fun _ => Car.warmRestart }).elsewhere rfl

theorem RangeLaw.takeRailFault (h : RangeLaw s) : RangeLaw (takeRailFault s) := by
  have held : RangeLaw (Machine.raise (.railFault s.race)
      (flagAllPorts (fun f => { f with railFault := true }) { s with railHold := true })) := h.elsewhere rfl
  unfold Machine.takeRailFault
  dsimp only
  split
  · exact held.haltRace .rail
  · exact held.haltRace .rail
  · exact held
  · exact held

theorem RangeLaw.startRace (h : RangeLaw s) : RangeLaw (startRace s).1 := by
  unfold Machine.startRace
  split
  · exact enterRun_keeps h h.validated ((h.validated true).changeRace _ _)
  all_goals exact h

theorem RangeLaw.cautionRace (h : RangeLaw s) : RangeLaw (cautionRace s).1 := by
  unfold Machine.cautionRace
  split
  · exact (h.changeRace _ _).clearIntents
  all_goals exact h

theorem RangeLaw.clearCautionRace (h : RangeLaw s) : RangeLaw (clearCautionRace s).1 := by
  unfold Machine.clearCautionRace
  split
  · exact h.changeRace _ _
  all_goals exact h

theorem RangeLaw.haltRequest (h : RangeLaw s) : RangeLaw (haltRequest s).1 := by
  unfold Machine.haltRequest
  split
  · exact h
  all_goals
    rw [accept_state]
    exact h.haltRace .halt

theorem RangeLaw.resumeRace (h : RangeLaw s) : RangeLaw (resumeRace s).1 := by
  unfold Machine.resumeRace
  split
  · exact enterRun_keeps h h.validated ((h.validated true).warmRestart.changeRace _ _)
  all_goals exact h

theorem RangeLaw.setupRace (h : RangeLaw s) : RangeLaw (setupRace s).1 := by
  unfold Machine.setupRace
  split
  · exact h.changeRace _ _
  all_goals exact h

theorem RangeLaw.clearRail (h : RangeLaw s) : RangeLaw (clearRail s).1 := by
  unfold Machine.clearRail
  split
  · exact h.elsewhere rfl
  · exact h

theorem RangeLaw.mapWriteEffects (h : RangeLaw s) : RangeLaw (mapWriteEffects s) :=
  (h.updateAllCars fun _ r => ⟨r.profile, r.speed, r.lastStep⟩ :
    RangeLaw { s with cars := updateAll s.cars fun _ => Car.clearFix }).elsewhere rfl

/-- A changed entry keeps a table in range. -/
theorem update_all {α : Type} {n : Nat} {v : Vector α n} {i : Fin n} {x : α} {p : α → Bool}
    (h : ∀ k : Fin n, p v[k] = true) (hx : p x = true) (k : Fin n) : p (update v i fun _ => x)[k] = true := by
  rw [update_get]
  split
  · exact hx
  · exact h k

theorem RangeLaw.writeSegment (h : RangeLaw s) (body : List Byte) : RangeLaw (writeSegment body s).1 := by
  obtain ⟨segments, switches, gates, pairing⟩ := s.map.inRange_iff.mp h.map
  unfold Machine.writeSegment
  split
  · dsimp only
    split
    · refine mapWrite_keeps h fun _ fits => (h.withMap ?_).mapWriteEffects
      exact (TrackMap.inRange_iff _).mpr ⟨update_all segments fits, switches, gates, pairing⟩
    · exact mapWrite_keeps h fun _ _ => h
  · exact h

theorem RangeLaw.writeSwitch (h : RangeLaw s) (body : List Byte) : RangeLaw (writeSwitch body s).1 := by
  obtain ⟨segments, switches, gates, pairing⟩ := s.map.inRange_iff.mp h.map
  unfold Machine.writeSwitch
  split
  · dsimp only
    split
    · refine mapWrite_keeps h fun _ fits => ?_
      refine RangeLaw.wakeLoop (RangeLaw.used (h.withMap ?_).mapWriteEffects (followSwitchUse_useFootprint _ _ _ _))
      exact (TrackMap.inRange_iff _).mpr ⟨segments, update_all switches fits, gates, pairing⟩
    · exact mapWrite_keeps h fun _ _ => h
  · exact h

theorem RangeLaw.writeGate (h : RangeLaw s) (body : List Byte) : RangeLaw (writeGate body s).1 := by
  obtain ⟨segments, switches, gates, pairing⟩ := s.map.inRange_iff.mp h.map
  unfold Machine.writeGate
  split
  · dsimp only
    split
    · next g _ =>
      refine mapWrite_keeps h fun _ fits => RangeLaw.wakeLoop ?_
      rw [followGateUse_footprint]
      refine RangeLaw.elsewhere (RangeLaw.mapWriteEffects (h.withMap ?_)) rfl
      exact (TrackMap.inRange_iff _).mpr ⟨segments, switches, update_all gates fits, pairing⟩
    · exact mapWrite_keeps h fun _ _ => h
  · exact h

theorem RangeLaw.setPairingGate (h : RangeLaw s) (body : List Byte) : RangeLaw (setPairingGate body s).1 := by
  obtain ⟨segments, switches, gates, -⟩ := s.map.inRange_iff.mp h.map
  unfold Machine.setPairingGate
  split
  · refine mapWrite_keeps h fun _ fits => (h.withMap ?_).mapWriteEffects
    exact (TrackMap.inRange_iff _).mpr ⟨segments, switches, gates, fits⟩
  · exact h

theorem RangeLaw.validateMap (h : RangeLaw s) : RangeLaw (validateMap s).1 := by
  unfold Machine.validateMap
  split
  · exact h
  · exact h.validated _

theorem RangeLaw.storeProfile (h : RangeLaw s) (c : CarNo) {p : Profile} (fits : p.inRange = true) :
    RangeLaw (storeProfile c p s) := by
  have stored := h.modifyCar c (f := fun r => { r with profile := p }) fun _ r => ⟨fits, r.speed, r.lastStep⟩
  unfold Machine.storeProfile
  dsimp only
  split
  · refine RangeLaw.modifyCar ?_ c fun _ r => ⟨r.profile, Nat.zero_le _, r.lastStep⟩
    unfold dissolveDisabled
    split
    · exact stored.dissolve _ _ _
    · exact stored
  · exact stored

theorem RangeLaw.writeProfile (h : RangeLaw s) (body : List Byte) : RangeLaw (writeProfile body s).1 := by
  unfold Machine.writeProfile
  split
  · dsimp only
    split
    · exact h
    · split
      · exact h
      · split
        · split
          · next fits => exact h.storeProfile _ fits
          · exact h
        · exact h
  · exact h

theorem RangeLaw.writeCalibration (h : RangeLaw s) (body : List Byte) : RangeLaw (writeCalibration body s).1 := by
  unfold Machine.writeCalibration
  split
  · dsimp only
    split
    · exact h
    · split
      · split
        · next fits => exact h.modifyHandset _ fun _ r => ⟨fits, r.step⟩
        · exact h
      · exact h
  · exact h

theorem RangeLaw.setScan (h : RangeLaw s) (body : List Byte) : RangeLaw (setScan body s).1 := by
  unfold Machine.setScan
  split
  · split
    · exact h
    · split
      · exact h
      · next fits => exact h.applyScan (by simpa using fits)
  · exact h

theorem RangeLaw.readRaw (h : RangeLaw s) (body : List Byte) : RangeLaw (readRaw body s).1 := by
  unfold Machine.readRaw
  split
  · split
    · exact h.withScanner h.scan
    · exact h
  · exact h

theorem RangeLaw.bindRequest (h : RangeLaw s) (body : List Byte) : RangeLaw (bindRequest body s).1 := by
  unfold Machine.bindRequest bindPair
  split
  · split
    · split
      · exact h
      · split
        · exact h
        · split
          · exact h
          · exact (h.leaveQueue _).makeBinding _ _ _
    · exact h
  · exact h

theorem RangeLaw.unbindRequest (h : RangeLaw s) (body : List Byte) : RangeLaw (unbindRequest body s).1 := by
  unfold Machine.unbindRequest unbindHandset
  split
  · split
    · split
      · exact h
      · split
        · exact h.dissolve _ _ _
        · exact ((h.leaveQueue _).setPairing _ _).raise _
        · exact h
    · exact h
  · exact h

theorem RangeLaw.fetchFrame (h : RangeLaw s) : RangeLaw (fetchFrame s).1 := by
  unfold Machine.fetchFrame
  split
  · exact h
  · exact h.withFrames h.trim

theorem RangeLaw.setCycleTrim (h : RangeLaw s) (body : List Byte) : RangeLaw (setCycleTrim body s).1 := by
  unfold Machine.setCycleTrim
  split
  · split
    · exact h
    · split
      · exact h
      · next fits => exact h.withFrames (Nat.not_lt.mp fits)
  · exact h

theorem RangeLaw.setLimits (h : RangeLaw s) (body : List Byte) : RangeLaw (setLimits body s).1 := by
  unfold Machine.setLimits
  split
  · dsimp only
    split
    · exact h
    · split
      · exact h
      · split
        · exact h
        · next fits => exact h.withLimits (by simpa using fits)
  · exact h

theorem RangeLaw.acceptRestart (h : RangeLaw s) : RangeLaw (acceptRestart s).1 := by
  unfold Machine.acceptRestart
  split
  · exact h
  · exact h.elsewhere rfl

/-- Every request's owner keeps the law. -/
theorem RangeLaw.owner (h : RangeLaw s) (p : Port) (x : Request) (body : List Byte) :
    RangeLaw (ownerOf p x body s).1 := by
  cases x with
  | identify => exact h
  | status => exact h
  | readEvents => exact h.elsewhere rfl
  | setEventMask =>
    dsimp only [ownerOf]
    unfold setMask
    split
    · exact h.elsewhere rfl
    · exact h
  | clearFlags =>
    dsimp only [ownerOf]
    unfold clearFlags
    split
    · exact h.elsewhere rfl
    · exact h
  | clearQueue => exact h.elsewhere rfl
  | start => exact h.startRace
  | caution => exact h.cautionRace
  | clearCaution => exact h.clearCautionRace
  | halt => exact h.haltRequest
  | resume => exact h.resumeRace
  | setup => exact h.setupRace
  | badTarget => exact h
  | railFault => exact h.takeRailFault
  | railClear => exact h.clearRail
  | writeSegment => exact h.writeSegment body
  | readSegment => exact (readSegment_state body s).symm ▸ h
  | writeSwitch => exact h.writeSwitch body
  | readSwitch => exact (readSwitch_state body s).symm ▸ h
  | writeGate => exact h.writeGate body
  | readGate => exact (readGate_state body s).symm ▸ h
  | setPairingGate => exact h.setPairingGate body
  | validateMap => exact h.validateMap
  | writeProfile => exact h.writeProfile body
  | readCar => exact (readCar_state body s).symm ▸ h
  | writeCalibration => exact h.writeCalibration body
  | setScan => exact h.setScan body
  | readRaw => exact h.readRaw body
  | readHandset => exact (readHandset_state body s).symm ▸ h
  | postSamples => exact h.takeSamples body.tail
  | bind => exact h.bindRequest body
  | unbind => exact h.unbindRequest body
  | readPairing => exact h
  | lockSwitch => exact switchRequest_keeps h fun j => h.switches (lockSwitch_switchFootprint j s)
  | unlockSwitch => exact switchRequest_keeps h fun j => h.switches (unlockSwitch_switchFootprint j s)
  | clearSwitch => exact switchRequest_keeps h fun j => h.switches (clearSwitch_switchFootprint j s)
  | readNode => exact (readNode_state body s).symm ▸ h
  | fetchFrame => exact h.fetchFrame
  | setCycleTrim => exact h.setCycleTrim body
  | setLimits => exact h.setLimits body
  | saveImage => exact storeRequest_keeps h (h.elsewhere rfl)
  | loadImage => exact storeRequest_keeps h (h.elsewhere rfl)
  | restart => exact h.acceptRestart

end Owners

/-! ### Commands -/

/-- The reset values lie in their ranges (R1, R3, R7, R8, R20, R43, R52, R150, R188). -/
theorem rangeLaw_reset : RangeLaw State.reset where
  map := (TrackMap.inRange_iff _).mpr
    ⟨fun n => by simp [State.reset, TrackMap.reset, Segment.unused, Segment.inRange],
      fun j => by simp [State.reset, TrackMap.reset, Switch.unused, Switch.inRange],
      fun g => by simp [State.reset, TrackMap.reset, Gate.unused, Gate.inRange], rfl⟩
  profiles c := by simp [State.reset, Car.reset, Profile.reset, Profile.inRange]
  calibrations h := by
    have fits : ∀ h : HandsetNo, (Calibration.reset h).inRange h = true := by decide
    simpa [State.reset, Handset.reset] using fits h
  scan := rfl
  trim := by decide
  limits := rfl
  speeds c := by simp [State.reset, Car.reset]
  steps h := by simp [State.reset, Handset.reset]
  lastSteps c := by simp [State.reset, Car.reset]

theorem rangeLaw_powerOn (x : Straps) (s : State) : RangeLaw (powerOn x s) := rangeLaw_reset.elsewhere rfl

theorem RangeLaw.confirmWrite {s : State} (h : RangeLaw s) (p : SaveProgress) : RangeLaw (confirmWrite p s) := by
  rw [confirmWrite_footprint]
  exact h.elsewhere rfl

/-- A load passes exactly when its image is marked, sums up, lies in range, binds soundly, and finds SETUP
(R200). -/
theorem loadFault_eq_none (i : Image) (race : RaceState) : loadFault i race = none ↔
    i.marker = true ∧ i.sum = i.additiveSum ∧ i.inRange = true ∧ i.bindingsSound = true ∧ race = .setup := by
  unfold loadFault
  split_ifs <;> simp_all

theorem RangeLaw.completeLoad {s : State} (h : RangeLaw s) : RangeLaw (completeLoad s) := by
  unfold Machine.completeLoad
  split
  · exact h.elsewhere rfl
  · next passed =>
    obtain ⟨-, -, fits, -⟩ := (loadFault_eq_none _ _).mp passed
    exact h.applyLoad fits

/-- Every command keeps the law. -/
theorem RangeLaw.command (i : Instr) (s t : State) (h : RangeLaw s) (e : exec i s = .next t) : RangeLaw t := by
  have reply (p : Port) (status : Byte) (body : List Byte) (u : State) (k : RangeLaw u) :
      RangeLaw (withReply p status body u) := k.modifyPort p _
  have port (p : Port) (f : PortState → PortState) (u : State) (k : RangeLaw u) :
      RangeLaw (u.modifyPort p f) := k.modifyPort p f
  cases i using instr_rowCases with
  | request x p =>
    rw [exec_request] at e
    exact serve_keeps e h (reply p) fun body => h.owner p x body
  | chipSelectFall p =>
    dsimp only [exec, execChipSelectFall] at e
    exact whenRunning_keeps e h fun _ => port p _ s h
  | chipSelectRise p =>
    exact whenRunning_keeps e h fun _ =>
      raiseSelect_keeps h (port p) (fun x body => h.owner p x body) rangeLaw_powerOn
  | unknownRequest p => exact serveUnknown_keeps e h (reply p)
  | masterSendsByte p b =>
    exact whenRunning_keeps e h fun _ => clockPort_keeps h (port p) fun x body => h.owner p x body
  | resetPinAssert =>
    obtain rfl := Host.Outcome.next.inj e
    exact h.elsewhere rfl
  | powerOnReset x =>
    obtain rfl := Host.Outcome.next.inj e
    exact rangeLaw_powerOn x s
  | intervalTimerExpiry =>
    dsimp only [exec, execIntervalTimerExpiry] at e
    refine whenRunning_keeps e h fun _ => ?_
    split
    · exact h.withScanner h.scan
    · exact h
  | roundResult ch raw pressed =>
    dsimp only [exec, execRoundResult] at e
    refine whenRunning_keeps e h fun _ => ?_
    split
    · exact h
    · split
      · refine RangeLaw.takeWiredResult ?_ _ _ _
        exact (h.withScanner (x := { s.scanner with round := _ }) h.scan).withScanner h.scan
      · exact h
  | holdEnd n =>
    dsimp only [exec, execHoldEnd] at e
    refine whenRunning_keeps e h fun _ => ?_
    split
    · exact h.modifyHandset n fun _ r => ⟨r.calibration, Nat.zero_le _⟩
    · exact h
  | lostTime n =>
    dsimp only [exec, execLostTime] at e
    refine whenRunning_keeps e h fun _ => ?_
    split
    · refine RangeLaw.raise (RangeLaw.modifyHandset h n ?_) _
      exact fun _ r => ⟨r.calibration, r.step⟩
    · exact h
  | holdTimerExpiry n =>
    dsimp only [exec, execHoldTimerExpiry] at e
    refine whenRunning_keeps e h fun _ => ?_
    split
    · refine RangeLaw.seekRequest (RangeLaw.modifyHandset h n ?_) n
      exact fun _ r => ⟨r.calibration, r.step⟩
    · exact h
  | seekTimerExpiry n =>
    dsimp only [exec, execSeekTimerExpiry] at e
    refine whenRunning_keeps e h fun _ => ?_
    split
    · exact h
    · split
      · exact ((h.leaveQueue n).setPairing n _).raise _
      · exact h
  | intentExpiry c =>
    dsimp only [exec, execIntentExpiry] at e
    refine whenRunning_keeps e h fun _ => ?_
    split
    · exact h.modifyCar c fun _ r => ⟨r.profile, r.speed, r.lastStep⟩
    · exact h
  | ageExpiry c =>
    dsimp only [exec, execAgeExpiry] at e
    refine whenRunning_keeps e h fun _ => ?_
    split
    · exact h.modifyCar c fun _ r => ⟨r.profile, r.speed, r.lastStep⟩
    · exact h
  | staleExpiry j c =>
    dsimp only [exec, execStaleExpiry] at e
    refine whenRunning_keeps e h fun _ => ?_
    split
    · exact h
    · exact ((h.switches (setList_switchFootprint j _ s)).raise _).switches (returnIfEmpty_switchFootprint j _)
  | deadlineExpiry j =>
    dsimp only [exec, execDeadlineExpiry] at e
    refine whenRunning_keeps e h fun _ => ?_
    split
    · exact h.switches (enterFault_switchFootprint j _ s)
    · exact h
  | cycleEnd =>
    dsimp only [exec, execCycleEnd] at e
    refine whenRunning_keeps e h fun _ => ?_
    split
    · exact h.publishFrame
    · exact h
  | pollSent =>
    dsimp only [exec, execPollSent] at e
    refine whenRunning_keeps e h fun _ => ?_
    split
    · exact h
    · split
      · exact h.elsewhere rfl
      · exact h
  | replyReceived r =>
    dsimp only [exec, execReplyReceived] at e
    refine whenRunning_keeps e h fun _ => ?_
    split
    · exact h
    · split
      · refine h.endExchange _ ?_
        split
        · exact h.takeMiss _
        · exact h.takeReply _ r
      · exact h
  | replyTimeout =>
    dsimp only [exec, execReplyTimeout] at e
    refine whenRunning_keeps e h fun _ => ?_
    split
    · exact h
    · split
      · exact h.endExchange _ (h.takeMiss _)
      · exact h
  | saveWriteConfirm =>
    dsimp only [exec, execSaveWriteConfirm] at e
    refine whenRunning_keeps e h fun _ => ?_
    split
    · exact h.confirmWrite _
    all_goals exact h
  | saveWriteTimeout =>
    dsimp only [exec, execSaveWriteTimeout] at e
    refine whenRunning_keeps e h fun _ => ?_
    split
    · split
      · exact h.elsewhere rfl
      · exact h
    all_goals exact h
  | loadComplete =>
    dsimp only [exec, execLoadComplete] at e
    refine whenRunning_keeps e h fun _ => ?_
    split
    · exact h.completeLoad
    all_goals exact h

/-- Settles O34: every command keeps the law, and so do the queue, the choices and the passing of time. -/
theorem rangeLawKept : Obligations.RangeLawKept :=
  keptByEveryStep_of_exec RangeLaw.command (fun _ _ h => h.elsewhere rfl) (fun _ _ h => h.elsewhere rfl)
    fun _ h => h.elsewhere rfl

end Sys2Proof.Machine
end

section
/-!
O4 and O60. What a power-on reset leaves in every block, entry by entry; and that the reset state meets every law.
-/

namespace Sys2Proof.Machine

/-! ### The tables at reset -/

theorem reset_segments (n : Fin 64) : State.reset.map.segments[n] = Segment.unused := by
  simp [State.reset, TrackMap.reset]

theorem reset_mapSwitches (j : SwitchNo) : State.reset.map.switches[j] = Switch.unused := by
  simp [State.reset, TrackMap.reset]

theorem reset_gates (g : Fin 16) : State.reset.map.gates[g] = Gate.unused := by
  simp [State.reset, TrackMap.reset]

theorem reset_cars (c : CarNo) : State.reset.cars[c] = Car.reset := by
  simp [State.reset]

theorem reset_handsets (h : HandsetNo) : State.reset.handsets[h] = Handset.reset h := by
  simp [State.reset]

theorem reset_latches (ch : Channel) : State.reset.scanner.latches[ch] = { raw := 0, fresh := false } := by
  simp [State.reset, Scanner.reset]

theorem reset_lists (j : SwitchNo) : State.reset.lists[j] = [] := by
  simp [State.reset]

theorem reset_verdicts (j : SwitchNo) : State.reset.verdicts[j] = none := by
  simp [State.reset]

theorem reset_switches (j : SwitchNo) : State.reset.switches[j] = SwitchRun.reset := by
  simp [State.reset]

theorem reset_nodes (a : NodeNo) : State.reset.loop.nodes[a] = NodeRecord.reset := by
  simp [State.reset, Loop.reset]

/-- A power-on reset takes every table from the reset state, and its ports from the straps. -/
theorem powerOn_blocks (x : Straps) (s : State) :
    (powerOn x s).map = State.reset.map ∧ (powerOn x s).cars = State.reset.cars ∧
      (powerOn x s).handsets = State.reset.handsets ∧ (powerOn x s).scanner = State.reset.scanner ∧
      (powerOn x s).lists = State.reset.lists ∧ (powerOn x s).verdicts = State.reset.verdicts ∧
      (powerOn x s).switches = State.reset.switches ∧ (powerOn x s).loop = State.reset.loop ∧
      (powerOn x s).ports = resetPorts x ∧ (powerOn x s).events = State.reset.events :=
  ⟨rfl, rfl, rfl, rfl, rfl, rfl, rfl, rfl, rfl, rfl⟩

/-! ### The statements -/

/-- Settles O4, block by block: the scalars by computing the reset, the tables entry by entry. -/
theorem powerOnResetValues : Obligations.PowerOnResetValues := by
  intro x s
  obtain ⟨map, cars, handsets, scanner, lists, verdicts, switches, loop, ports, events⟩ := powerOn_blocks x s
  refine ⟨powerOn x s, rfl, rfl, rfl, rfl, rfl, rfl, rfl, rfl, ?segments, ?mapSwitches, ?gates, ?cars, ?handsets,
    rfl, rfl, rfl, rfl, ?latches, rfl, ?perSwitch, ?nodes, rfl, rfl, rfl, rfl, rfl, rfl, ?ports, rfl, rfl, rfl,
    ?events, rfl, rfl, rfl, rfl, rfl, rfl⟩
  case segments => intro n; rw [map, reset_segments]; rfl
  case mapSwitches => intro j; rw [map, reset_mapSwitches]; rfl
  case gates => intro g; rw [map, reset_gates]; rfl
  case cars => intro c; rw [cars, reset_cars]; rfl
  case handsets => intro h; rw [handsets, reset_handsets]; rfl
  case latches => intro ch; rw [scanner, reset_latches]
  case perSwitch =>
    intro j
    rw [lists, verdicts, switches, reset_lists, reset_verdicts, reset_switches]
    exact ⟨rfl, rfl, rfl⟩
  case nodes => intro a; rw [loop, reset_nodes]; rfl
  case ports => rw [ports]; intro p; cases p <;> exact ⟨rfl, rfl, rfl, rfl, rfl, rfl⟩
  case events => rw [events]; intro p; cases p <;> exact ⟨rfl, rfl, rfl⟩

theorem pairingLaw_reset : PairingLaw State.reset where
  agree h c := by rw [reset_handsets, reset_cars]; simp [Handset.reset, Car.reset]
  enabled c := by rw [reset_cars]; simp [Car.reset]
  queued h := by rw [reset_handsets]; simp [State.reset, Handset.reset]
  once := List.nodup_nil
  room := Nat.zero_le _

theorem reservationLaw_reset : ReservationLaw State.reset where
  room j := by rw [reset_lists]; exact Nat.zero_le _
  once := by
    have nobody : reservedCars State.reset = [] :=
      List.flatMap_eq_nil_iff.mpr fun j _ => by rw [reset_lists]; rfl
    rw [nobody]
    exact List.nodup_nil

theorem reset_switch (j : SwitchNo) : State.reset.map.switch j = Switch.unused := reset_mapSwitches j

/-- At reset no node is in the polled set (R149). -/
theorem reset_polled (a : NodeNo) : State.reset.map.polled a = false := by
  have gate (n : Nat) : State.reset.map.gate n = Gate.unused := by
    simp only [TrackMap.gate, State.reset, TrackMap.reset]
    grind
  unfold TrackMap.polled
  split
  · rw [reset_switch]; rfl
  · rw [gate]; rfl

theorem trackLaw_reset : TrackLaw State.reset where
  used j := by rw [reset_switch]; simp [Switch.unused]
  unused j _ := by rw [reset_switches]; exact ⟨rfl, rfl, rfl, rfl⟩
  thrown j := by rw [reset_switches]; simp [SwitchRun.reset]
  empty _ j := reset_lists j
  urgentUsed j := by simp [State.reset, Loop.reset]
  urgentOnce := List.nodup_nil
  urgentRun := Nat.zero_le _
  polled a := by rw [reset_polled, reset_nodes]; simp [NodeRecord.reset]
  exchange x := by simp [State.reset, Loop.reset]
  idle _ := reset_polled

/-- Settles O60: in the reset state the tables are empty, the race is SETUP and every port is idle. -/
theorem resetMeetsTheLaws : Obligations.ResetMeetsTheLaws := by
  refine ⟨?rail, ?intent, pairingLaw_reset, reservationLaw_reset, trackLaw_reset, ?events, rangeLaw_reset,
    ?frames, ?ports⟩
  case rail => intro running; rfl
  case intent => intro c; rw [reset_cars]; simp [Car.reset]
  case events => intro p; cases p <;> exact ⟨Nat.zero_le _, Nat.zero_le _⟩
  case frames => exact ⟨by simp [State.reset, FrameBuilder.reset], by simp [State.reset, FrameBuilder.reset], rfl,
    Nat.zero_le _⟩
  case ports => intro p; cases p <;> exact ⟨⟨rfl, rfl⟩, Nat.zero_le _, Nat.zero_le _, Nat.zero_le _⟩

end Sys2Proof.Machine
end

section
/-!
O27. Outside SETUP no command but a reset changes the track map: map writes and loads ask for SETUP, and every
other operation's footprint leaves the map out.
-/

namespace Sys2Proof.Machine

/-! ### Footprints that leave the map out -/

section Footprints

variable {s t : State}

theorem SwitchFootprint.map_eq (e : SwitchFootprint s t) : t.map = s.map := by rw [e]

theorem TrackFootprint.map_eq (e : TrackFootprint s t) : t.map = s.map := by rw [e]

theorem HandsetFootprint.map_eq (e : HandsetFootprint s t) : t.map = s.map := by rw [e]

theorem PairingFootprint.map_eq (e : PairingFootprint s t) : t.map = s.map := by rw [e]

theorem haltRace_map (cause : RaceCause) (s : State) : (haltRace cause s).map = s.map :=
  (haltRace_switchFootprint cause s).map_eq

theorem takeRailFault_map (s : State) : (takeRailFault s).map = s.map := by
  unfold takeRailFault
  dsimp only
  split
  · exact haltRace_map .rail _
  · exact haltRace_map .rail _
  · rfl
  · rfl

theorem storeProfile_map (c : CarNo) (p : Profile) (s : State) : (storeProfile c p s).map = s.map := by
  unfold storeProfile dissolveDisabled
  dsimp only
  split
  · split <;> rfl
  · rfl

theorem endExchange_map (x : Exchange) {outcome : State → State} (s : State)
    (e : TrackFootprint s (outcome s)) : (endExchange x outcome s).map = s.map := by
  unfold endExchange
  rw [arbitrate_footprint]
  dsimp only
  split
  · rfl
  · rw [moveServed_footprint]
    exact e.map_eq

end Footprints

/-! ### Owners outside SETUP -/

section Owners

variable (s : State) (body : List Byte)

theorem mapWrite_map {inRange : Bool} {store : State → State} {s : State} (race : s.race ≠ .setup) :
    (mapWrite inRange store s).1.map = s.map :=
  mapWrite_keeps (P := fun u => u.map = s.map) rfl fun setup _ => absurd setup race

theorem writeProfile_map : (writeProfile body s).1.map = s.map := by
  unfold writeProfile
  split
  · dsimp only
    split
    · rfl
    · split
      · rfl
      · split
        · split
          · exact storeProfile_map _ _ s
          · rfl
        · rfl
  · rfl

theorem writeCalibration_map : (writeCalibration body s).1.map = s.map := by
  unfold writeCalibration
  split
  · dsimp only
    split
    · rfl
    · split
      · split <;> rfl
      · rfl
  · rfl

theorem setScan_map : (setScan body s).1.map = s.map := by
  unfold setScan
  split
  · split
    · rfl
    · split
      · rfl
      · rw [accept_state, applyScan_footprint]
  · rfl

theorem bindRequest_map : (bindRequest body s).1.map = s.map := by
  unfold bindRequest bindPair
  split
  · split
    · split
      · rfl
      · split
        · rfl
        · split <;> rfl
    · rfl
  · rfl

theorem unbindRequest_map : (unbindRequest body s).1.map = s.map := by
  unfold unbindRequest unbindHandset
  split
  · split
    · split
      · rfl
      · split <;> rfl
    · rfl
  · rfl

theorem setLimits_map : (setLimits body s).1.map = s.map := by
  unfold setLimits
  split
  · dsimp only
    split
    · rfl
    · split
      · rfl
      · split <;> rfl
  · rfl

/-- Outside SETUP no request's owner changes the map (R16). -/
theorem owner_map (p : Port) (x : Request) (race : s.race ≠ .setup) : (ownerOf p x body s).1.map = s.map := by
  cases x with
  | identify | status | readEvents | clearQueue | badTarget | readPairing => rfl
  | setEventMask => dsimp only [ownerOf]; unfold setMask; split <;> rfl
  | clearFlags => dsimp only [ownerOf]; unfold clearFlags; split <;> rfl
  | start =>
    dsimp only [ownerOf]
    unfold startRace
    split
    · next setup => exact absurd setup race
    all_goals rfl
  | caution => dsimp only [ownerOf]; unfold cautionRace; split <;> rfl
  | clearCaution => dsimp only [ownerOf]; unfold clearCautionRace; split <;> rfl
  | halt =>
    dsimp only [ownerOf]
    unfold haltRequest
    split
    · rfl
    all_goals rw [accept_state, haltRace_map]
  | resume =>
    dsimp only [ownerOf]
    unfold resumeRace
    split
    · exact enterRun_keeps (P := fun u => u.map = s.map) rfl (fun _ => rfl) rfl
    all_goals rfl
  | setup => dsimp only [ownerOf]; unfold setupRace; split <;> rfl
  | railFault => exact takeRailFault_map s
  | railClear => dsimp only [ownerOf]; unfold clearRail; split <;> rfl
  | writeSegment =>
    dsimp only [ownerOf]
    unfold writeSegment
    split
    · dsimp only
      split <;> exact mapWrite_map race
    · rfl
  | writeSwitch =>
    dsimp only [ownerOf]
    unfold writeSwitch
    split
    · dsimp only
      split <;> exact mapWrite_map race
    · rfl
  | writeGate =>
    dsimp only [ownerOf]
    unfold writeGate
    split
    · dsimp only
      split <;> exact mapWrite_map race
    · rfl
  | setPairingGate =>
    dsimp only [ownerOf]
    unfold setPairingGate
    split
    · exact mapWrite_map race
    · rfl
  | validateMap => dsimp only [ownerOf]; unfold validateMap; split <;> rfl
  | readSegment => exact congrArg State.map (readSegment_state body s)
  | readSwitch => exact congrArg State.map (readSwitch_state body s)
  | readGate => exact congrArg State.map (readGate_state body s)
  | readCar => exact congrArg State.map (readCar_state body s)
  | readHandset => exact congrArg State.map (readHandset_state body s)
  | readNode => exact congrArg State.map (readNode_state body s)
  | readRaw =>
    dsimp only [ownerOf]
    unfold readRaw
    split
    · split <;> rfl
    · rfl
  | writeProfile => exact writeProfile_map s body
  | writeCalibration => exact writeCalibration_map s body
  | setScan => exact setScan_map s body
  | postSamples => exact (takeSamples_handsetFootprint body.tail s).map_eq
  | bind => exact bindRequest_map s body
  | unbind => exact unbindRequest_map s body
  | lockSwitch =>
    exact switchRequest_keeps (P := fun u => u.map = s.map) rfl fun j => (lockSwitch_switchFootprint j s).map_eq
  | unlockSwitch =>
    exact switchRequest_keeps (P := fun u => u.map = s.map) rfl fun j => (unlockSwitch_switchFootprint j s).map_eq
  | clearSwitch =>
    exact switchRequest_keeps (P := fun u => u.map = s.map) rfl fun j => (clearSwitch_switchFootprint j s).map_eq
  | fetchFrame => dsimp only [ownerOf]; unfold fetchFrame; split <;> rfl
  | setCycleTrim =>
    dsimp only [ownerOf]
    unfold setCycleTrim
    split
    · split
      · rfl
      · split <;> rfl
    · rfl
  | setLimits => exact setLimits_map s body
  | saveImage => exact storeRequest_keeps (P := fun u => u.map = s.map) rfl rfl
  | loadImage => exact storeRequest_keeps (P := fun u => u.map = s.map) rfl rfl
  | restart => dsimp only [ownerOf]; unfold acceptRestart; split <;> rfl

end Owners

/-- A load outside SETUP fails its last check, so it leaves the map (R200). -/
theorem completeLoad_map (s : State) (race : s.race ≠ .setup) : (completeLoad s).map = s.map := by
  unfold completeLoad
  split
  · rfl
  · next passed =>
    obtain ⟨-, -, -, -, setup⟩ := (loadFault_eq_none _ _).mp passed
    exact absurd setup race

/-- Settles O27, command by command. -/
theorem mapConstantOutsideSetup : Obligations.MapConstantOutsideSetup := by
  intro i s t e race noReset noRise early
  have reply (p : Port) (status : Byte) (body : List Byte) (u : State) (k : u.map = s.map) :
      (withReply p status body u).map = s.map := k
  have keep {f : State → State} (e : whenRunning s f = .next t) (k : (f s).map = s.map) : t.map = s.map :=
    whenRunning_keeps (P := fun u => u.map = s.map) e rfl fun _ => k
  cases i using instr_rowCases with
  | request x p =>
    rw [exec_request] at e
    exact serve_keeps (P := fun u => u.map = s.map) e rfl (reply p) fun body => owner_map s body p x race
  | chipSelectFall p =>
    dsimp only [exec, execChipSelectFall] at e
    exact keep e rfl
  | chipSelectRise p => exact absurd rfl (noRise p)
  | unknownRequest p => exact serveUnknown_keeps (P := fun u => u.map = s.map) e rfl (reply p)
  | masterSendsByte p b =>
    refine keep e ?_
    rw [clockPort_early p b s (early p b rfl)]
    rfl
  | resetPinAssert =>
    obtain rfl := Host.Outcome.next.inj e
    rfl
  | powerOnReset x => exact absurd rfl (noReset x)
  | intervalTimerExpiry =>
    dsimp only [exec, execIntervalTimerExpiry] at e
    refine keep e ?_
    split <;> rfl
  | roundResult ch raw pressed =>
    dsimp only [exec, execRoundResult] at e
    refine keep e ?_
    split
    · rfl
    · split
      · exact (takeWiredResult_handsetFootprint _ _ _ _).map_eq
      · rfl
  | holdEnd n =>
    dsimp only [exec, execHoldEnd] at e
    refine keep e ?_
    split <;> rfl
  | lostTime n =>
    dsimp only [exec, execLostTime] at e
    refine keep e ?_
    split <;> rfl
  | holdTimerExpiry n =>
    dsimp only [exec, execHoldTimerExpiry] at e
    refine keep e ?_
    split
    · exact (seekRequest_pairingFootprint n _).map_eq
    · rfl
  | seekTimerExpiry n =>
    dsimp only [exec, execSeekTimerExpiry] at e
    refine keep e ?_
    split
    · rfl
    · split <;> rfl
  | intentExpiry c =>
    dsimp only [exec, execIntentExpiry] at e
    refine keep e ?_
    split <;> rfl
  | ageExpiry c =>
    dsimp only [exec, execAgeExpiry] at e
    refine keep e ?_
    split <;> rfl
  | staleExpiry j c =>
    dsimp only [exec, execStaleExpiry] at e
    refine keep e ?_
    split
    · rfl
    · exact (returnIfEmpty_switchFootprint j _).map_eq
  | deadlineExpiry j =>
    dsimp only [exec, execDeadlineExpiry] at e
    refine keep e ?_
    split
    · exact (enterFault_switchFootprint j _ s).map_eq
    · rfl
  | cycleEnd =>
    dsimp only [exec, execCycleEnd] at e
    refine keep e ?_
    split <;> rfl
  | pollSent =>
    dsimp only [exec, execPollSent] at e
    refine keep e ?_
    split
    · rfl
    · split <;> rfl
  | replyReceived r =>
    dsimp only [exec, execReplyReceived] at e
    refine keep e ?_
    split
    · rfl
    · split
      · refine endExchange_map _ s ?_
        split
        · exact takeMiss_trackFootprint _ s
        · exact takeReply_trackFootprint _ r s
      · rfl
  | replyTimeout =>
    dsimp only [exec, execReplyTimeout] at e
    refine keep e ?_
    split
    · rfl
    · split
      · exact endExchange_map _ s (takeMiss_trackFootprint _ s)
      · rfl
  | saveWriteConfirm =>
    dsimp only [exec, execSaveWriteConfirm] at e
    refine keep e ?_
    split
    · rw [confirmWrite_footprint]
    all_goals rfl
  | saveWriteTimeout =>
    dsimp only [exec, execSaveWriteTimeout] at e
    refine keep e ?_
    split
    · split <;> rfl
    all_goals rfl
  | loadComplete =>
    dsimp only [exec, execLoadComplete] at e
    refine keep e ?_
    split
    · exact completeLoad_map s race
    all_goals rfl

end Sys2Proof.Machine
end

section
/-!
O26. A map walk follows straight successors: one visit of the walk is one successor, by induction on the visits
left. A sensor's place and the polled set by the kind of its node.
-/

namespace Sys2Proof.Machine

/-! ### Successors -/

/-- The target is first met at the n-th successor of `x`, with every segment up to it used (R11, R12). -/
structure TrackMap.MeetsAt (m : TrackMap) (target x n : Nat) : Prop where
  meets : m.successor x n = target
  used : ∀ i ≤ n, (m.segment (m.successor x i)).used = true
  first : ∀ i < n, m.successor x i ≠ target

/-- The lengths passed from `x` up to its n-th successor. -/
def TrackMap.passed (m : TrackMap) (x n : Nat) : Int :=
  ∑ i ∈ Finset.range n, ((m.segment (m.successor x i)).length : Int)

theorem TrackMap.passed_zero (m : TrackMap) (x : Nat) : m.passed x 0 = 0 := rfl

theorem TrackMap.passed_succ (m : TrackMap) (x n : Nat) :
    m.passed x (n + 1) = (m.segment x).length + m.passed (m.segment x).next n := by
  rw [passed, Finset.sum_range_succ', add_comm]
  rfl

theorem TrackMap.meetsAt_zero (m : TrackMap) (target x : Nat) :
    m.MeetsAt target x 0 ↔ x = target ∧ (m.segment x).used = true := by
  constructor
  · rintro ⟨meets, used, -⟩
    exact ⟨meets, used 0 le_rfl⟩
  · rintro ⟨meets, used⟩
    refine ⟨meets, fun i hi => ?_, fun i hi => absurd hi (Nat.not_lt_zero i)⟩
    obtain rfl := Nat.le_zero.mp hi
    exact used

theorem TrackMap.meetsAt_succ (m : TrackMap) (target x n : Nat) :
    m.MeetsAt target x (n + 1) ↔
      x ≠ target ∧ (m.segment x).used = true ∧ m.MeetsAt target (m.segment x).next n := by
  constructor
  · rintro ⟨meets, used, first⟩
    exact ⟨first 0 n.succ_pos, used 0 (Nat.zero_le _), meets, fun i hi => used (i + 1) (Nat.succ_le_succ hi),
      fun i hi => first (i + 1) (Nat.succ_lt_succ hi)⟩
  · rintro ⟨start, usedStart, meets, used, first⟩
    refine ⟨meets, fun i hi => ?_, fun i hi => ?_⟩
    · cases i with
      | zero => exact usedStart
      | succ i => exact used i (Nat.le_of_succ_le_succ hi)
    · cases i with
      | zero => exact start
      | succ i => exact first i (Nat.lt_of_succ_lt_succ hi)

/-! ### Walks -/

/-- Steps 4 to 6 of R11 with `fuel` visits left find the target among the first `fuel` segments from `x`. -/
theorem TrackMap.walkOn_eq_some (m : TrackMap) (target fuel x : Nat) (sum d : Int) :
    m.walkOn target fuel x sum = some d ↔ ∃ n < fuel, m.MeetsAt target x n ∧ d = sum + m.passed x n := by
  induction fuel generalizing x sum with
  | zero => simp [walkOn]
  | succ fuel ih =>
    rw [walkOn]
    split_ifs with unused here
    · have off : (m.segment x).used ≠ true := by simpa using unused
      simp only [false_iff]
      rintro ⟨n, -, met, -⟩
      exact off (met.used 0 (Nat.zero_le n))
    · have on : (m.segment x).used = true := by simpa using unused
      constructor
      · intro e
        exact ⟨0, fuel.succ_pos, (m.meetsAt_zero target x).mpr ⟨here, on⟩, by
          rw [passed_zero, add_zero]; exact (Option.some.inj e).symm⟩
      · rintro ⟨n, -, met, rfl⟩
        cases n with
        | zero => rw [passed_zero, add_zero]
        | succ n => exact absurd here ((m.meetsAt_succ target x n).mp met).1
    · have on : (m.segment x).used = true := by simpa using unused
      rw [ih]
      constructor
      · rintro ⟨n, hn, met, rfl⟩
        exact ⟨n + 1, Nat.succ_lt_succ hn, (m.meetsAt_succ target x n).mpr ⟨here, on, met⟩, by
          rw [passed_succ, add_assoc]⟩
      · rintro ⟨n, hn, met, rfl⟩
        cases n with
        | zero => exact absurd ((m.meetsAt_zero target x).mp met).1 here
        | succ n =>
          exact ⟨n, Nat.lt_of_succ_lt_succ hn, ((m.meetsAt_succ target x n).mp met).2.2, by
            rw [passed_succ, add_assoc]⟩

/-- A walk from inside a used segment finds the target there or at one of the next 63 successors (R11, R12). -/
theorem TrackMap.walk_eq_some (m : TrackMap) (start offset target : Nat) (d : Int) :
    m.walk start offset target = some d ↔
      (m.segment start).used = true ∧ offset < (m.segment start).length ∧
        ∃ n ≤ 63, m.MeetsAt target start n ∧ d = m.passed start n - offset := by
  unfold walk
  dsimp only
  split_ifs with outside here
  · simp only [Bool.or_eq_true, Bool.not_eq_true', decide_eq_true_eq] at outside
    simp only [false_iff]
    rintro ⟨used, inside, -⟩
    obtain unused | beyond := outside
    · exact absurd used (by simp [unused])
    · omega
  all_goals
    obtain ⟨used, inside⟩ : (m.segment start).used = true ∧ offset < (m.segment start).length := by
      simpa using outside
  · constructor
    · intro e
      refine ⟨used, inside, 0, Nat.zero_le _, (m.meetsAt_zero target start).mpr ⟨here, used⟩, ?_⟩
      rw [passed_zero, zero_sub]
      exact (Option.some.inj e).symm
    · rintro ⟨-, -, n, -, met, rfl⟩
      cases n with
      | zero => rw [passed_zero, zero_sub]
      | succ n => exact absurd here ((m.meetsAt_succ target start n).mp met).1
  · rw [walkOn_eq_some]
    constructor
    · rintro ⟨n, hn, met, rfl⟩
      refine ⟨used, inside, n + 1, hn, (m.meetsAt_succ target start n).mpr ⟨here, used, met⟩, ?_⟩
      rw [passed_succ]
      ring
    · rintro ⟨-, -, n, hn, met, rfl⟩
      cases n with
      | zero => exact absurd ((m.meetsAt_zero target start).mp met).1 here
      | succ n =>
        refine ⟨n, hn, ((m.meetsAt_succ target start n).mp met).2.2, ?_⟩
        rw [passed_succ]
        ring

/-! ### Nodes and sensors -/

theorem nodeSwitch_switchNode (j : SwitchNo) : nodeSwitch (switchNode j) = some j := dif_pos j.isLt

theorem nodeSwitch_gateNode (g : Fin 16) : nodeSwitch (gateNode g) = none :=
  dif_neg (Nat.not_lt.mpr (Nat.le_add_left 24 g.val))

theorem TrackMap.polled_switchNode (m : TrackMap) (j : SwitchNo) :
    m.polled (switchNode j) = (m.switch j).used := by
  rw [polled, nodeSwitch_switchNode]

theorem TrackMap.polled_gateNode (m : TrackMap) (g : Fin 16) : m.polled (gateNode g) = (m.gate g.val).used := by
  rw [polled, nodeSwitch_gateNode]
  rfl

theorem kindBelongs_switchNode (j : SwitchNo) (k : SensorKind) :
    kindBelongs (switchNode j) k = (k != .gate) := by
  rw [kindBelongs, nodeSwitch_switchNode]
  cases k <;> rfl

theorem kindBelongs_gateNode (g : Fin 16) (k : SensorKind) : kindBelongs (gateNode g) k = (k == .gate) := by
  rw [kindBelongs, nodeSwitch_gateNode]
  cases k <;> rfl

/-- A switch node's sensor exists while the switch is used and the kind is none of GATE (R9, R10). -/
theorem TrackMap.resolve_switchNode (m : TrackMap) (j : SwitchNo) (k : SensorKind) :
    m.resolve { node := switchNode j, kind := k } =
      if k != .gate && (m.switch j).used then some (m.sensorPlace { node := switchNode j, kind := k }) else none := by
  rw [resolve, kindBelongs_switchNode, polled_switchNode]

theorem TrackMap.sensorPlace_entry (m : TrackMap) (j : SwitchNo) :
    m.sensorPlace { node := switchNode j, kind := .entry } = ((m.switch j).home, (m.switch j).entryOffset) := by
  simp only [sensorPlace, nodeSwitch_switchNode]

theorem TrackMap.sensorPlace_exitStraight (m : TrackMap) (j : SwitchNo) :
    m.sensorPlace { node := switchNode j, kind := .exitStraight } =
      ((m.segment (m.switch j).home).next, (m.switch j).exitStraightOffset) := by
  simp only [sensorPlace, nodeSwitch_switchNode]

theorem TrackMap.sensorPlace_exitThrown (m : TrackMap) (j : SwitchNo) :
    m.sensorPlace { node := switchNode j, kind := .exitThrown } =
      ((m.switch j).thrown, (m.switch j).exitThrownOffset) := by
  simp only [sensorPlace, nodeSwitch_switchNode]

/-- A gate node's sensor exists while the gate is used and the kind is GATE (R9, R10). -/
theorem TrackMap.resolve_gateNode (m : TrackMap) (g : Fin 16) (k : SensorKind) :
    m.resolve { node := gateNode g, kind := k } =
      if k == .gate && (m.gate g.val).used then some ((m.gate g.val).segment, (m.gate g.val).offset) else none := by
  rw [resolve, kindBelongs_gateNode, polled_gateNode, sensorPlace, nodeSwitch_gateNode]
  rfl

theorem TrackMap.walkFrom_of_resolve (m : TrackMap) (q : Sensor) (target : Nat) :
    (m.resolve q = none → m.walkFrom q target = none) ∧
      ∀ x, m.resolve q = some x → m.walkFrom q target = m.walk x.1 x.2 target := by
  unfold walkFrom
  exact ⟨fun e => by rw [e], fun x e => by rw [e]⟩

/-- Settles O26: a walk by its successors, sensors by the kind of their node. -/
theorem walkFollowsSuccessors : Obligations.WalkFollowsSuccessors := by
  intro m
  refine ⟨fun start offset target d => ?walks, fun j => ?switches, fun g => ?gates, m.walkFrom_of_resolve⟩
  case walks =>
    rw [m.walk_eq_some]
    refine and_congr_right fun used => and_congr_right fun _ => ?_
    constructor
    · rintro ⟨n, hn, met, rfl⟩
      cases n with
      | zero => exact .inl ⟨met.meets, by rw [m.passed_zero, zero_sub]⟩
      | succ n => exact .inr ⟨met.first 0 n.succ_pos, n + 1, Nat.le_add_left 1 n, hn, met.meets, met.used,
          fun i _ hi => met.first i hi, rfl⟩
    · rintro (⟨here, rfl⟩ | ⟨away, n, -, hn, meets, passedUsed, first, rfl⟩)
      · exact ⟨0, Nat.zero_le _, (m.meetsAt_zero target start).mpr ⟨here, used⟩, by
          rw [m.passed_zero, zero_sub]⟩
      · refine ⟨n, hn, ⟨meets, passedUsed, fun i hi => ?_⟩, rfl⟩
        cases i with
        | zero => exact away
        | succ i => exact first (i + 1) (Nat.le_add_left 1 i) hi
  case switches =>
    refine ⟨m.polled_switchNode j, ?_, ?_, ?_, ?_⟩ <;> rw [m.resolve_switchNode]
    · rw [m.sensorPlace_entry]; rfl
    · rw [m.sensorPlace_exitStraight]; rfl
    · rw [m.sensorPlace_exitThrown]; rfl
    · rfl
  case gates =>
    refine ⟨m.polled_gateNode g, ?_, fun k other => ?_⟩
    · rw [m.resolve_gateNode]
      rfl
    · rw [m.resolve_gateNode, beq_false_of_ne other]
      rfl

end Sys2Proof.Machine
end

section
/-!
O25. A validation is the first of a list of faults, which lists R14's checks record by record; so it passes when
that list is empty. VALIDATE MAP writes its result.
-/

namespace Sys2Proof.Machine

/-! ### The faults of a map, in R14's order -/

/-- One check: its fault when it fails. -/
def faultIf (x : MapRecord) (y : MapReason) (fails : Bool) : List MapFault :=
  if fails then [{ record := x, reason := y }] else []

/-- The faults of segment `n` (check 2). -/
def TrackMap.segmentFaults (m : TrackMap) (n : Nat) : List MapFault :=
  faultIf (.segment n) .nextUnused ((m.segment n).used && !(m.segment (m.segment n).next).used)

/-- The faults of switch `j` (checks 3a to 3d). -/
def TrackMap.switchFaults (m : TrackMap) (j : SwitchNo) : List MapFault :=
  let r := m.switch j
  let home := m.segment r.home
  if r.used then
    faultIf (.switch j.val) .nextUnused
        (!(home.used && (m.segment home.next).used && (m.segment r.thrown).used)) ++
      faultIf (.switch j.val) .sameLane (home.lane == (m.segment r.thrown).lane) ++
      faultIf (.switch j.val) .offset (decide (home.length ≤ r.entryOffset) ||
        decide ((m.segment home.next).length ≤ r.exitStraightOffset) ||
        decide ((m.segment r.thrown).length ≤ r.exitThrownOffset)) ++
      faultIf (.switch j.val) .sharedHome ((List.finRange 24).any fun i =>
        decide (i < j) && (m.switch i).used && (m.switch i).home == r.home)
  else []

/-- The faults of gate `g` (checks 4a and 4b). -/
def TrackMap.gateFaults (m : TrackMap) (g : Nat) : List MapFault :=
  let r := m.gate g
  if r.used then
    faultIf (.gate g) .gateSegment (!(m.segment r.segment).used) ++
      faultIf (.gate g) .offset (decide ((m.segment r.segment).length ≤ r.offset))
  else []

/-- The fault of the pairing-gate setting (check 5). -/
def TrackMap.pairingGateFaults (m : TrackMap) : List MapFault :=
  match m.pairingGate with
  | some g => faultIf (.pairingGate g) .pairingGate (!(m.gate g).used)
  | none => []

/-- Every fault of a map: the whole map, segments, switches, gates, the pairing gate (R14). -/
def TrackMap.faults (m : TrackMap) : List MapFault :=
  faultIf .whole .empty ((List.range 64).all fun n => !(m.segment n).used) ++
    (List.range 64).flatMap m.segmentFaults ++ (List.finRange 24).flatMap m.switchFaults ++
    (List.range 16).flatMap m.gateFaults ++ m.pairingGateFaults

theorem faultIf_head? (x : MapRecord) (y : MapReason) (b : Bool) :
    (faultIf x y b).head? = if b then some { record := x, reason := y } else none := by
  cases b <;> rfl

theorem faultIf_eq_nil (x : MapRecord) (y : MapReason) (b : Bool) : faultIf x y b = [] ↔ b = false := by
  cases b <;> simp [faultIf]

/-! ### A validation is the first fault -/

/-- The first fault of one check and what follows it. -/
theorem faultIf_append_head? (x : MapRecord) (y : MapReason) (b : Bool) (l : List MapFault) :
    (faultIf x y b ++ l).head? = if b then some { record := x, reason := y } else l.head? := by
  cases b <;> rfl

theorem TrackMap.checkSegment_eq (m : TrackMap) (n : Nat) : m.checkSegment n = (m.segmentFaults n).head? := by
  rw [segmentFaults, faultIf_head?]
  rfl

theorem TrackMap.checkSwitch_eq (m : TrackMap) (j : SwitchNo) : m.checkSwitch j = (m.switchFaults j).head? := by
  unfold checkSwitch switchFaults
  dsimp only
  cases (m.switch j).used
  · rfl
  · simp only [if_true, List.append_assoc, faultIf_append_head?, faultIf_head?, Bool.not_and, beq_iff_eq]
    rfl

theorem TrackMap.checkGate_eq (m : TrackMap) (g : Nat) : m.checkGate g = (m.gateFaults g).head? := by
  unfold checkGate gateFaults
  dsimp only
  cases (m.gate g).used
  · rfl
  · simp only [if_true, faultIf_append_head?, faultIf_head?, decide_eq_true_eq]
    rfl

theorem TrackMap.checkPairingGate_eq (m : TrackMap) : m.checkPairingGate = m.pairingGateFaults.head? := by
  unfold checkPairingGate pairingGateFaults
  cases m.pairingGate with
  | none => rfl
  | some g =>
    simp only [faultIf_head?]
    cases (m.gate g).used <;> rfl

theorem TrackMap.segment_eq (m : TrackMap) (n : Fin 64) : m.segment n.val = m.segments[n] := by
  simp [segment]

/-- No segment is used, said of the table and of the numbers 0 to 63. -/
theorem TrackMap.noneUsed_eq (m : TrackMap) :
    ((List.range 64).all fun n => !(m.segment n).used) = !m.segments.toList.any Segment.used := by
  rw [List.not_any_eq_all_not, Bool.eq_iff_iff, table_all]
  simp only [List.all_eq_true, List.mem_range, ← m.segment_eq, Fin.forall_iff]

/-- A validation reports the first fault (R14). -/
theorem TrackMap.validate_eq_head? (m : TrackMap) : m.validate = m.faults.head? := by
  have segments : (List.range 64).findSome? m.checkSegment = ((List.range 64).flatMap m.segmentFaults).head? := by
    rw [List.head?_flatMap, funext m.checkSegment_eq]
  have switches : switchNos.findSome? m.checkSwitch = ((List.finRange 24).flatMap m.switchFaults).head? := by
    rw [List.head?_flatMap, funext m.checkSwitch_eq]
    rfl
  have gates : (List.range 16).findSome? m.checkGate = ((List.range 16).flatMap m.gateFaults).head? := by
    rw [List.head?_flatMap, funext m.checkGate_eq]
  unfold validate faults
  rw [segments, switches, gates, m.checkPairingGate_eq]
  simp only [List.head?_append, faultIf_head?, m.noneUsed_eq, Option.or_assoc]
  cases m.segments.toList.any Segment.used <;> rfl

/-! ### Validity -/

theorem TrackMap.segmentFaults_eq_nil (m : TrackMap) (n : Nat) : m.segmentFaults n = [] ↔
    ((m.segment n).used = true → (m.segment (m.segment n).next).used = true) := by
  rw [segmentFaults, faultIf_eq_nil]
  cases (m.segment n).used <;> simp

theorem TrackMap.switchFaults_eq_nil (m : TrackMap) (j : SwitchNo) : m.switchFaults j = [] ↔
    ((m.switch j).used = true →
      (m.segment (m.switch j).home).used = true ∧
      (m.segment (m.segment (m.switch j).home).next).used = true ∧
      (m.segment (m.switch j).thrown).used = true ∧
      (m.segment (m.switch j).home).lane ≠ (m.segment (m.switch j).thrown).lane ∧
      (m.switch j).entryOffset < (m.segment (m.switch j).home).length ∧
      (m.switch j).exitStraightOffset < (m.segment (m.segment (m.switch j).home).next).length ∧
      (m.switch j).exitThrownOffset < (m.segment (m.switch j).thrown).length ∧
      ∀ i : SwitchNo, i < j → (m.switch i).used = true → (m.switch i).home ≠ (m.switch j).home) := by
  unfold switchFaults
  dsimp only
  cases (m.switch j).used
  · simp
  · simp [faultIf_eq_nil, and_assoc]

theorem TrackMap.gateFaults_eq_nil (m : TrackMap) (g : Nat) : m.gateFaults g = [] ↔
    ((m.gate g).used = true →
      (m.segment (m.gate g).segment).used = true ∧ (m.gate g).offset < (m.segment (m.gate g).segment).length) := by
  unfold gateFaults
  dsimp only
  cases (m.gate g).used
  · simp
  · simp [faultIf_eq_nil]

theorem TrackMap.pairingGateFaults_eq_nil (m : TrackMap) : m.pairingGateFaults = [] ↔
    ∀ g, m.pairingGate = some g → (m.gate g).used = true := by
  unfold pairingGateFaults
  cases m.pairingGate <;> simp [faultIf_eq_nil]

/-- A map is valid when it has no fault, check by check. -/
theorem TrackMap.faults_eq_nil (m : TrackMap) : m.faults = [] ↔
    (∃ n < 64, (m.segment n).used = true) ∧ (∀ n < 64, m.segmentFaults n = []) ∧
      (∀ j : SwitchNo, m.switchFaults j = []) ∧ (∀ g < 16, m.gateFaults g = []) ∧ m.pairingGateFaults = [] := by
  simp [faults, faultIf_eq_nil, List.flatMap_eq_nil_iff]

/-! ### VALIDATE MAP -/

/-- Settles O25: the faults in R14's order, none of them in a valid map, and VALIDATE MAP's answers. -/
theorem validationIsExact : Obligations.ValidationIsExact := by
  refine ⟨fun m => ?valid, fun m => m.validate_eq_head?, ⟨rfl, rfl, fun n y => rfl⟩, fun s h => ⟨?busy, ?taken⟩⟩
  case valid =>
    rw [m.validate_eq_head?, List.head?_eq_none_iff, m.faults_eq_nil]
    simp only [m.segmentFaults_eq_nil, m.switchFaults_eq_nil, m.gateFaults_eq_nil, m.pairingGateFaults_eq_nil]
  case busy =>
    intro loading
    exact exec_owner (x := .validateMap) h rfl rfl rfl rfl (if_pos loading)
  case taken =>
    intro ready
    exact exec_owner (x := .validateMap) h rfl rfl rfl rfl (if_neg ready)

end Sys2Proof.Machine
end

section
/-!
O23 and O24. A map write reads its record back from the body, and R16's checks decide it; a switch or gate write
then moves its node by the used field before and after.
-/

namespace Sys2Proof.Machine

/-! ### R16's checks -/

section Checks

variable {inRange : Bool} {store : State → State} {s : State}

theorem mapWrite_state (race : s.race ≠ .setup) : mapWrite inRange store s = (s, Reply.bare .state) :=
  if_pos race

theorem mapWrite_busy (race : s.race = .setup) (busy : s.store ≠ .idle) :
    mapWrite inRange store s = (s, Reply.bare .busy) := by
  unfold mapWrite
  rw [if_neg (not_not_intro race), if_pos (storeBusy_eq_true.mpr busy)]
  rfl

theorem mapWrite_ready (race : s.race = .setup) (idle : s.store = .idle) :
    mapWrite inRange store s = if inRange then (store s, Reply.bare .ok) else (s, Reply.bare .range) := by
  unfold mapWrite
  rw [if_neg (not_not_intro race), storeBusy_eq_false.mpr idle]
  cases inRange <;> rfl

end Checks

/-- The pairing-gate setting stored, with the effects of a map write (R8, R17). -/
def storePairingGate (g : Option Nat) (s : State) : State :=
  mapWriteEffects { s with map := { s.map with pairingGate := g } }

theorem setPairingGate_eq (g : Byte) (s : State) :
    setPairingGate [g] s =
      mapWrite (pairingGateInRange (numberOrNone g)) (storePairingGate (numberOrNone g)) s := rfl

/-- Each of the four map writes goes through R16's checks once its body has the catalogue's length. -/
theorem ownerOf_mapWrite {x : Request} (hx : x ∈ [Request.writeSegment, .writeSwitch, .writeGate, .setPairingGate])
    {body : List Byte} (fits : x.lengthFits body = true) (p : Port) (s : State) :
    ∃ inRange store, ownerOf p x body s = mapWrite inRange store s := by
  simp only [List.mem_cons, List.not_mem_nil, or_false] at hx
  obtain rfl | rfl | rfl | rfl := hx
  · replace fits : body.length = 6 := beq_iff_eq.mp fits
    iterate 6 (obtain _ | ⟨_, body⟩ := body; · simp at fits)
    obtain rfl : body = [] := by simpa using fits
    dsimp only [ownerOf, writeSegment]
    split <;> exact ⟨_, _, rfl⟩
  · replace fits : body.length = 15 := beq_iff_eq.mp fits
    iterate 15 (obtain _ | ⟨_, body⟩ := body; · simp at fits)
    obtain rfl : body = [] := by simpa using fits
    dsimp only [ownerOf, writeSwitch]
    split <;> exact ⟨_, _, rfl⟩
  · replace fits : body.length = 5 := beq_iff_eq.mp fits
    iterate 5 (obtain _ | ⟨_, body⟩ := body; · simp at fits)
    obtain rfl : body = [] := by simpa using fits
    dsimp only [ownerOf, writeGate]
    split <;> exact ⟨_, _, rfl⟩
  · obtain ⟨gate, rfl⟩ := List.length_eq_one_iff.mp (beq_iff_eq.mp fits)
    exact ⟨_, _, setPairingGate_eq gate s⟩

/-- The four map writes are rows of their own code. -/
theorem owns_mapWrite {x : Request} (hx : x ∈ [Request.writeSegment, .writeSwitch, .writeGate, .setPairingGate])
    (length : Option Byte) (body : List Byte) : x.owns { code := x.code, length := length, body := body } = true := by
  simp only [List.mem_cons, List.not_mem_nil, or_false] at hx
  obtain rfl | rfl | rfl | rfl := hx <;> rfl

theorem allows_mapWrite {x : Request} (hx : x ∈ [Request.writeSegment, .writeSwitch, .writeGate, .setPairingGate]) :
    x.allows .console = true := by
  simp only [List.mem_cons, List.not_mem_nil, or_false] at hx
  obtain rfl | rfl | rfl | rfl := hx <;> rfl

/-! ### Records read back -/

theorem reservedYesNo_yesNo (b : Bool) : reservedYesNo (some (yesNo b)) = false := by cases b <;> rfl

theorem Segment.inRange_iff (r : Segment) :
    r.inRange = true ↔ r.lane ≤ 3 ∧ 50 ≤ r.length ∧ r.length ≤ 10000 ∧ r.next ≤ 63 := by
  simp [Segment.inRange, and_assoc]

theorem Switch.inRange_iff (r : Switch) :
    r.inRange = true ↔ r.home ≤ 63 ∧ r.thrown ≤ 63 ∧ r.entryOffset ≤ 9999 ∧ r.exitStraightOffset ≤ 9999 ∧
      r.exitThrownOffset ≤ 9999 ∧ 50 ≤ r.zoneLength ∧ r.zoneLength ≤ 2000 ∧ r.group.all (· ≤ 7) = true ∧
      50 ≤ r.actuation ∧ r.actuation ≤ 1000 := by
  simp [Switch.inRange, and_assoc]

theorem Gate.inRange_iff (r : Gate) : r.inRange = true ↔ r.segment ≤ 63 ∧ r.offset ≤ 9999 := by
  simp [Gate.inRange]

/-- A segment record whose fields have room in their bytes. -/
structure Segment.Encodable (r : Segment) : Prop where
  lane : r.lane ≤ 255
  length : r.length ≤ 65535
  next : r.next ≤ 255

/-- A switch record whose fields have room in their bytes. -/
structure Switch.Encodable (r : Switch) : Prop where
  home : r.home ≤ 255
  thrown : r.thrown ≤ 255
  entryOffset : r.entryOffset ≤ 65535
  exitStraightOffset : r.exitStraightOffset ≤ 65535
  exitThrownOffset : r.exitThrownOffset ≤ 65535
  zoneLength : r.zoneLength ≤ 65535
  group : r.group.all (· ≤ 254) = true
  actuation : r.actuation ≤ 65535

/-- A gate record whose fields have room in their bytes. -/
structure Gate.Encodable (r : Gate) : Prop where
  segment : r.segment ≤ 255
  offset : r.offset ≤ 65535

theorem Switch.Encodable.of_inRange {r : Switch} (h : r.inRange = true) : r.Encodable := by
  obtain ⟨home, thrown, entry, straight, thrownExit, -, zone, group, -, actuation⟩ := r.inRange_iff.mp h
  refine ⟨by omega, by omega, by omega, by omega, by omega, by omega, ?_, by omega⟩
  cases hg : r.group with
  | none => rfl
  | some g =>
    rw [hg] at group
    simp only [Option.all_some, decide_eq_true_eq] at group ⊢
    omega

theorem Gate.Encodable.of_inRange {r : Gate} (h : r.inRange = true) : r.Encodable := by
  obtain ⟨segment, offset⟩ := r.inRange_iff.mp h
  exact ⟨by omega, by omega⟩

section Bodies

variable {n : Nat} (s : State)

theorem writeSegment_inTable {r : Segment} (k : r.Encodable) (h : n < 64) :
    writeSegment (byte n :: r.bytes) s = mapWrite r.inRange (storeSegment ⟨n, h⟩ r) s := by
  simp only [writeSegment, Segment.bytes, bytes2, List.cons_append, List.nil_append, isYes_yesNo,
    byte_toNat k.lane, number2_bytes k.length, byte_toNat k.next, numbered_byte (show 64 ≤ 256 by decide) h]

theorem writeSegment_above {r : Segment} (hn : n ≤ 255) (h : 64 ≤ n) :
    writeSegment (byte n :: r.bytes) s = mapWrite false id s := by
  simp only [writeSegment, Segment.bytes, bytes2, List.cons_append, List.nil_append, numbered_none hn h]

theorem writeSwitch_inTable {r : Switch} (k : r.Encodable) (h : n < 24) :
    writeSwitch (byte n :: r.bytes) s = mapWrite r.inRange (storeSwitch ⟨n, h⟩ r) s := by
  simp only [writeSwitch, Switch.bytes, bytes2, List.cons_append, List.nil_append, isYes_yesNo,
    byte_toNat k.home, byte_toNat k.thrown, number2_bytes k.entryOffset, number2_bytes k.exitStraightOffset,
    number2_bytes k.exitThrownOffset, number2_bytes k.zoneLength, numberOrNone_byteOrNone k.group,
    number2_bytes k.actuation, numbered_byte (show 24 ≤ 256 by decide) h]

theorem writeSwitch_above {r : Switch} (hn : n ≤ 255) (h : 24 ≤ n) :
    writeSwitch (byte n :: r.bytes) s = mapWrite false id s := by
  simp only [writeSwitch, Switch.bytes, bytes2, List.cons_append, List.nil_append, numbered_none hn h]

theorem writeGate_inTable {r : Gate} (k : r.Encodable) (h : n < 16) :
    writeGate (byte n :: r.bytes) s = mapWrite r.inRange (storeGate ⟨n, h⟩ r) s := by
  simp only [writeGate, Gate.bytes, bytes2, List.cons_append, List.nil_append, isYes_yesNo,
    byte_toNat k.segment, number2_bytes k.offset, numbered_byte (show 16 ≤ 256 by decide) h]

theorem writeGate_above {r : Gate} (hn : n ≤ 255) (h : 16 ≤ n) :
    writeGate (byte n :: r.bytes) s = mapWrite false id s := by
  simp only [writeGate, Gate.bytes, bytes2, List.cons_append, List.nil_append, numbered_none hn h]

theorem pairingGateInRange_iff (g : Byte) :
    pairingGateInRange (numberOrNone g) = true ↔ g.toNat ≤ 15 ∨ g = 0xFF := by
  unfold pairingGateInRange numberOrNone
  split_ifs with absent
  · simp [absent]
  · simp only [Option.all_some, decide_eq_true_eq, absent, or_false]

end Bodies

/-! ### Requests that write the map -/

section Requests

variable {s t : State} {n : Nat} {st : Status}

theorem exec_writeSegment {r : Segment} (h : FrameEnded .console 0x20 (byte n :: r.bytes) s)
    (answer : writeSegment (byte n :: r.bytes) s = (t, Reply.bare st)) :
    exec (.writeSegment .console) s = .next (withReply .console st.code [] t) :=
  exec_owner (x := .writeSegment) h rfl rfl (reservedYesNo_yesNo r.used) rfl answer

theorem exec_writeSwitch {r : Switch} (h : FrameEnded .console 0x22 (byte n :: r.bytes) s)
    (answer : writeSwitch (byte n :: r.bytes) s = (t, Reply.bare st)) :
    exec (.writeSwitch .console) s = .next (withReply .console st.code [] t) :=
  exec_owner (x := .writeSwitch) h rfl rfl (reservedYesNo_yesNo r.used) rfl answer

theorem exec_writeGate {r : Gate} (h : FrameEnded .console 0x24 (byte n :: r.bytes) s)
    (answer : writeGate (byte n :: r.bytes) s = (t, Reply.bare st)) :
    exec (.writeGate .console) s = .next (withReply .console st.code [] t) :=
  exec_owner (x := .writeGate) h rfl rfl (reservedYesNo_yesNo r.used) rfl answer

theorem exec_setPairingGate {g : Byte} (h : FrameEnded .console 0x26 [g] s)
    (answer : setPairingGate [g] s = (t, Reply.bare st)) :
    exec (.setPairingGate .console) s = .next (withReply .console st.code [] t) :=
  exec_owner (x := .setPairingGate) h rfl rfl rfl rfl answer

end Requests

/-- Settles O23: R16's refusals for each of the four writes, and the two writes that store their record alone. -/
theorem mapWritesTakenOrRefused : Obligations.MapWritesTakenOrRefused := by
  intro s
  refine ⟨fun x hx body h fits clear => ?refused, fun race idle => ⟨?segment, ?pairingGate, ?switch, ?gate⟩⟩
  case refused =>
    obtain ⟨inRange, store, owner⟩ := ownerOf_mapWrite hx fits .console s
    have answered {status : Status} (e : mapWrite inRange store s = (s, Reply.bare status)) :
        exec (x.instr .console) s = .next (withReply .console status.code [] s) :=
      exec_owner h (owns_mapWrite hx _ _) fits clear (allows_mapWrite hx) (owner.trans e)
    exact ⟨fun race => answered (mapWrite_state race), fun race busy => answered (mapWrite_busy race busy)⟩
  case segment =>
    intro n r hn lane length next h
    have k : r.Encodable := ⟨lane, length, next⟩
    refine ⟨fun inTable l1 l2 l3 l4 => ?_, fun outside => ?_⟩
    · refine exec_writeSegment (st := .ok) h ((writeSegment_inTable s k inTable).trans ?_)
      rw [mapWrite_ready race idle, if_pos (r.inRange_iff.mpr ⟨l1, l2, l3, l4⟩)]
      rfl
    · refine exec_writeSegment (st := .range) h ?_
      obtain above | inTable := Nat.lt_or_ge n 64 |>.symm
      · rw [writeSegment_above s hn above, mapWrite_ready race idle]
        rfl
      · rw [writeSegment_inTable s k inTable, mapWrite_ready race idle, if_neg]
        rw [r.inRange_iff]
        omega
  case pairingGate =>
    intro g h
    refine ⟨fun inside => ?_, fun above number => ?_⟩
    · refine exec_setPairingGate (st := .ok) h ?_
      rw [setPairingGate_eq, mapWrite_ready race idle, if_pos ((pairingGateInRange_iff g).mpr inside)]
      rfl
    · refine exec_setPairingGate (st := .range) h ?_
      rw [setPairingGate_eq, mapWrite_ready race idle, if_neg]
      rw [pairingGateInRange_iff]
      exact fun inside => inside.elim (fun i => absurd i (by omega)) number
  case switch =>
    intro n r hn home thrown entry straight thrownExit zone group actuation h outside
    have k : r.Encodable := ⟨home, thrown, entry, straight, thrownExit, zone, group, actuation⟩
    refine exec_writeSwitch (st := .range) h ?_
    obtain above | inTable := Nat.lt_or_ge n 24 |>.symm
    · rw [writeSwitch_above s hn above, mapWrite_ready race idle]
      rfl
    · rw [writeSwitch_inTable s k inTable, mapWrite_ready race idle, if_neg]
      rw [r.inRange_iff]
      rintro ⟨_, _, _, _, _, _, _, noGroup, _, _⟩
      have grouped : r.group.any (7 < ·) = false := by
        cases hg : r.group with
        | none => rfl
        | some g => rw [hg] at noGroup; simpa using noGroup
      simp only [grouped, Bool.false_eq_true, false_or] at outside
      omega
  case gate =>
    intro n r hn segment offset h outside
    refine exec_writeGate (st := .range) h ?_
    obtain above | inTable := Nat.lt_or_ge n 16 |>.symm
    · rw [writeGate_above s hn above, mapWrite_ready race idle]
      rfl
    · rw [writeGate_inTable s ⟨segment, offset⟩ inTable, mapWrite_ready race idle, if_neg]
      rw [r.inRange_iff]
      omega

/-! ### Switch and gate writes move nodes -/

section Moves

variable (s : State)

/-- The loop starts when it is idle and a node is in the polled set (R134, R145). -/
theorem wakeLoop_eq :
    wakeLoop s = if s.loop.exchange = none ∧ ∃ a : NodeNo, s.map.polled a = true then arbitrate s else s := by
  unfold wakeLoop
  simp only [Bool.and_eq_true, Option.isNone_iff_eq_none, List.any_eq_true, mem_nodeNos, true_and]

theorem joinUrgent_eq (j : SwitchNo) : joinUrgent j s =
    s.setUrgent (if j ∈ s.loop.urgent then s.loop.urgent else s.loop.urgent ++ [j]) := by
  unfold joinUrgent
  split <;> rfl

/-- A switch that becomes used commands STRAIGHT from RETURNING, and its node enters afresh (R130, R133). -/
theorem switchBecomesUsed_eq (j : SwitchNo) : switchBecomesUsed j s = { s with
    switches := s.switches.set j { s.switches[j] with
      state := .returning, commanded := .straight, confirmed := .unknown
      deadline := some (later s.clock ((s.map.switch j).actuation + 200)) }
    loop := { s.loop with
      nodes := s.loop.nodes.set (switchNode j) NodeRecord.entered
      urgent := if j ∈ s.loop.urgent then s.loop.urgent else s.loop.urgent ++ [j] } } := by
  have twice (f g : SwitchRun → SwitchRun) (u : State) :
      (u.modifySwitch j f).modifySwitch j g = u.modifySwitch j fun r => g (f r) := by
    unfold State.modifySwitch
    rw [update_update]
  unfold switchBecomesUsed commandPosition
  rw [twice, joinUrgent_eq]
  rfl

/-- A switch that becomes unused rests with its counts, off the urgent list, and its node leaves (R110, R130,
R133). -/
theorem switchBecomesUnused_eq (j : SwitchNo) : switchBecomesUnused j s = { s with
    switches := s.switches.set j { s.switches[j] with
      state := .straight, commanded := .straight, confirmed := .unknown, deadline := none }
    loop := { (nodeLeaves (switchNode j) s).loop with urgent := s.loop.urgent.filter (· != j) } } := by
  unfold switchBecomesUnused leaveUrgent State.setUrgent State.modifySwitch
  rfl

theorem followSwitchUse_used (j : SwitchNo) : followSwitchUse false true j s = switchBecomesUsed j s := rfl

theorem followSwitchUse_unused (j : SwitchNo) : followSwitchUse true false j s = switchBecomesUnused j s := rfl

/-- An accepted WRITE SWITCH stores its record and follows its used field (R4). -/
theorem exec_writeSwitch_accepted {s : State} (race : s.race = .setup) (idle : s.store = .idle) {j : SwitchNo}
    {r : Switch} (fits : r.inRange = true) (h : FrameEnded .console 0x22 (byte j.val :: r.bytes) s) :
    exec (.writeSwitch .console) s = .next (withReply .console 0x00 [] (storeSwitch j r s)) := by
  refine exec_writeSwitch (st := .ok) h ((writeSwitch_inTable s (.of_inRange fits) j.isLt).trans ?_)
  rw [mapWrite_ready race idle, if_pos fits]

/-- An accepted WRITE GATE stores its record and follows its used field (R7). -/
theorem exec_writeGate_accepted {s : State} (race : s.race = .setup) (idle : s.store = .idle) {g : Fin 16}
    {r : Gate} (fits : r.inRange = true) (h : FrameEnded .console 0x24 (byte g.val :: r.bytes) s) :
    exec (.writeGate .console) s = .next (withReply .console 0x00 [] (storeGate g r s)) := by
  refine exec_writeGate (st := .ok) h ((writeGate_inTable s (.of_inRange fits) g.isLt).trans ?_)
  rw [mapWrite_ready race idle, if_pos fits]

end Moves

/-- Settles O24: each write by the used field before and after, and then the loop's start. -/
theorem switchAndGateWritesMoveNodes : Obligations.SwitchAndGateWritesMoveNodes := by
  intro s race idle written started entered leave
  refine ⟨fun j r fits h => ?switch, fun g r fits h => ?gate⟩
  case switch =>
    intro w outcome
    have stored {u : State} (follows : followSwitchUse (s.map.switch j).used r.used j w = u) : outcome u := by
      have e : storeSwitch j r s = wakeLoop u := congrArg wakeLoop follows
      exact (exec_writeSwitch_accepted race idle fits h).trans (by rw [e, wakeLoop_eq])
    have record : w.map.switch j = r := by
      show (s.map.switches.set j r)[j] = r
      simp
    refine ⟨fun same => stored (if_pos same), fun before after => stored ?_, fun before after => stored ?_⟩
    · rw [before, after, followSwitchUse_used, switchBecomesUsed_eq, record]
      rfl
    · rw [before, after, followSwitchUse_unused, switchBecomesUnused_eq]
      rfl
  case gate =>
    intro w outcome
    have stored {u : State} (follows : followGateUse (s.map.gate g.val).used r.used g w = u) : outcome u := by
      have e : storeGate g r s = wakeLoop u := congrArg wakeLoop follows
      exact (exec_writeGate_accepted race idle fits h).trans (by rw [e, wakeLoop_eq])
    refine ⟨fun same => stored (if_pos same), fun before after => stored ?_, fun before after => stored ?_⟩
    · rw [before, after]
      rfl
    · rw [before, after]
      rfl

end Sys2Proof.Machine
end

section
/-!
O10. The reading requests answer from the state as it stands: the owner's reply, field by field, once the number
in the body is in its table.
-/

namespace Sys2Proof.Machine

/-! ### Fields of a reply -/

/-- Bit `i` of the sticky flags' byte is the flag whose keep bit is `i` (R196). -/
theorem StickyFlags.byte_getLsbD (f : StickyFlags) {i : Nat} (h : i < 8) : f.byte.getLsbD i =
    [f.railFault, f.overrun, f.satSeen, f.nodeFaultSeen, f.misrouteSeen].getD i false := by
  obtain ⟨a, b, c, d, e⟩ := f
  revert a b c d e
  interval_cases i <;> decide

/-- A verdict's flags as a number, each at its bit (R97). -/
theorem verdictFlags_eq (g c l s u : Bool) :
    ((0 : BitVec 3) ++ BitVec.ofBool u ++ BitVec.ofBool s ++ BitVec.ofBool l ++ BitVec.ofBool c ++
      BitVec.ofBool g : Byte) = byte (g.toNat + 2 * c.toNat + 4 * l.toNat + 8 * s.toNat + 16 * u.toNat) := by
  revert g c l s u
  decide

/-- A table's entries in ascending number. -/
theorem toList_eq_map_finRange {α : Type} {n : Nat} (v : Vector α n) :
    v.toList = (List.finRange n).map fun i => v[i] := by
  apply List.ext_getElem <;> simp

/-- READ CAR's stale indication of a fix (R25, R39). -/
theorem staleByte_fixStale {c : Car} {f : Fix} (e : c.fix = some f) (clock : Time) :
    staleByte (c.fixStale clock) =
      if c.stale = true ∨ 50000 < (clock - f.time).toNat then 0x00 else 0x01 := by
  refine if_congr ?_ rfl rfl
  simp only [Car.fixStale, e, Bool.or_eq_true, decide_eq_true_eq]
  exact Iff.rfl

theorem urgentPlace_off {l : List SwitchNo} {j : SwitchNo} (h : j ∉ l) : urgentPlace l j = 0 := if_neg h

/-- A switch's place is one more than the number of addresses before it on the urgent list (R148). -/
theorem urgentPlace_eq {j : SwitchNo} {before after : List SwitchNo} (h : j ∉ before) :
    urgentPlace (before ++ j :: after) j = before.length + 1 := by
  simp [urgentPlace, List.idxOf_append_of_notMem h]

/-! ### Owners -/

section Owners

variable {n : Nat} (s : State)

theorem readSegment_inTable (h : n < 64) :
    readSegment [byte n] s = report (s.map.segments[n]).bytes s := by
  simp only [readSegment, numbered_byte (show 64 ≤ 256 by decide) h, Fin.getElem_fin]

theorem readSwitch_inTable (h : n < 24) : readSwitch [byte n] s = report (switchReply s ⟨n, h⟩) s := by
  simp only [readSwitch, numbered_byte (show 24 ≤ 256 by decide) h]

theorem readGate_inTable (h : n < 16) : readGate [byte n] s = report (gateReply s.map ⟨n, h⟩) s := by
  simp only [readGate, numbered_byte (show 16 ≤ 256 by decide) h]

theorem readCar_inTable (h : n < 12) : readCar [byte n] s = report (carReply s.cars[n] s.clock) s := by
  simp only [readCar, numbered_byte (show 12 ≤ 256 by decide) h, Fin.getElem_fin]

theorem readHandset_inTable (h : n < 16) :
    readHandset [byte n] s = report (handsetReply ⟨n, h⟩ s.handsets[n]) s := by
  simp only [readHandset, numbered_byte (show 16 ≤ 256 by decide) h, Fin.getElem_fin]

theorem readNode_inTable (h : n < 40) : readNode [byte n] s = report (nodeReply s ⟨n, h⟩) s := by
  simp only [readNode, numbered_byte (show 40 ≤ 256 by decide) h]

/-- A request that only reports is answered OK with its body, and nothing else changes. -/
theorem exec_report {x : Request} {p : Port} {body bytes reply : List Byte} {s : State}
    (h : FrameEnded p x.code body s)
    (owns : x.owns { code := x.code, length := some (byte body.length), body := body } = true)
    (fits : x.lengthFits body = true) (clear : x.reservedSet body = false)
    (allowed : x.allows (portRole p) = true) (answer : ownerOf p x body s = report reply s) (same : reply = bytes) :
    exec (x.instr p) s = .next (withReply p 0x00 bytes s) :=
  same ▸ exec_owner h owns fits clear allowed answer

/-- A number above its table is refused with RANGE, and nothing else changes. -/
theorem exec_refuseRange {x : Request} {p : Port} {body : List Byte} {s : State} (h : FrameEnded p x.code body s)
    (owns : x.owns { code := x.code, length := some (byte body.length), body := body } = true)
    (fits : x.lengthFits body = true) (clear : x.reservedSet body = false)
    (allowed : x.allows (portRole p) = true) (answer : ownerOf p x body s = refuse .range s) :
    exec (x.instr p) s = .next (withReply p 0x14 [] s) :=
  exec_owner h owns fits clear allowed answer

end Owners

/-! ### Reply bodies -/

section Bodies

variable (s : State)

theorem statusReply_eq (p : Port) : statusReply s p =
    [byte s.race.code, if s.railHold then 0x00 else 0x01, flagByte .mapValid s.mapValid, byte s.store.code] ++
      bytes4 s.clock ++
      [(s.events.get p).flags.byte, byte (s.events.get p).queue.length, byte (s.events.get p).drops] ++
      bytes2 (s.events.get p).mask.toNat ++
      [yesNo s.limits.satEvents, if s.frames.framePending then 0x00 else 0x01] ++ bytes2 s.frames.missed ++
      [byte (s.ports.get p).aborted, byte (s.ports.get p).cut] := rfl

theorem VerdictRecord.bytes_eq (v : VerdictRecord) : v.bytes =
    [byte v.car.val, byte v.switch.val] ++ bytes4 v.refTime ++
      [byte v.verdict.code, byte (v.flagG.toNat + 2 * v.flagC.toNat + 4 * v.flagL.toNat + 8 * v.flagS.toNat +
        16 * v.flagU.toNat)] ++
      bytes2 v.conflicts.toNat ++ [byteOrNone (v.firstConflict.map Fin.val)] ++ bytes2 v.entry ++ bytes2 v.exit := by
  rw [← verdictFlags_eq]
  rfl

theorem pairingReply_eq : pairingReply s =
    [byte s.seeks.length] ++ (s.seeks.flatMap fun e => byte e.handset.val :: bytes4 e.joined) ++
      ((List.finRange 16).flatMap fun h => pairingBytes s.handsets[h].pairing) ++ [byteOrNone s.map.pairingGate] := by
  unfold pairingReply
  rw [toList_eq_map_finRange, List.flatMap_map]

/-- READ NODE's body for a gate node: the record alone (R148). -/
theorem nodeReply_gate {n : Nat} (h : n < 40) (gate : 24 ≤ n) : nodeReply s ⟨n, h⟩ =
    [byte s.loop.nodes[n].state.code, byte s.loop.nodes[n].missCount, byte s.loop.nodes[n].goodCount] ++
      bytes2 s.loop.nodes[n].exchanges ++ bytes2 s.loop.nodes[n].misses ++ timeOrNone s.loop.nodes[n].lastAnswer ++
      timeOrNone s.loop.nodes[n].lastMiss := by
  have gateNode : nodeSwitch ⟨n, h⟩ = none := dif_neg (Nat.not_lt.mpr gate)
  unfold nodeReply
  simp only [gateNode, List.append_nil]
  rfl

/-- READ NODE's body for a switch node: the record and the urgent fields (R148). -/
theorem nodeReply_switch {n : Nat} (h : n < 40) (hj : n < 24) : nodeReply s ⟨n, h⟩ =
    [byte s.loop.nodes[n].state.code, byte s.loop.nodes[n].missCount, byte s.loop.nodes[n].goodCount] ++
      bytes2 s.loop.nodes[n].exchanges ++ bytes2 s.loop.nodes[n].misses ++ timeOrNone s.loop.nodes[n].lastAnswer ++
      timeOrNone s.loop.nodes[n].lastMiss ++
      [yesNo (decide (⟨n, hj⟩ ∈ s.loop.urgent)), byte (urgentPlace s.loop.urgent ⟨n, hj⟩),
        byte (if ⟨n, hj⟩ ∈ s.loop.urgent then setCommand s.switches[n].commanded else .none).code] := by
  have switchNode : nodeSwitch ⟨n, h⟩ = some ⟨n, hj⟩ := dif_pos hj
  unfold nodeReply pollCommand
  simp only [switchNode]
  rfl

end Bodies

/-- Settles O10, request by request. -/
theorem readingRequests : Obligations.ReadingRequests := by
  refine ⟨⟨rfl, rfl, rfl, fun n t => ⟨rfl, BitVec.toNat_ofNat n 8, rfl, rfl⟩⟩,
    fun f i h => f.byte_getLsbD h, fun p s => ?_⟩
  intro time pairing
  have timed (t : Option Time) : timeOrNone t = time t := by cases t <;> rfl
  have paired (x : PairingState) : pairingBytes x = pairing x := by cases x <;> rfl
  refine ⟨fun h => ?identify, fun h => ?status, fun n h => ?segment, fun n h => ?switch, fun n h => ?gate,
    fun n h => ?car, fun n h => ?handset, fun h => ?readPairing, fun n h => ?node⟩
  case identify => exact exec_report (x := .identify) h rfl rfl rfl rfl rfl rfl
  case status =>
    refine exec_report (x := .status) h rfl rfl rfl rfl rfl ((statusReply_eq s p).trans ?_)
    cases s.store <;> rfl
  case segment =>
    refine ⟨fun inTable => ?_, fun above hn => ?_⟩
    · exact exec_report (x := .readSegment) h rfl rfl rfl rfl (readSegment_inTable s inTable) rfl
    · refine exec_refuseRange (x := .readSegment) h rfl rfl rfl rfl ?_
      simp only [ownerOf, readSegment, numbered_none hn above]
  case switch =>
    refine ⟨fun inTable => ?_, fun above hn => ?_⟩
    · intro j m r
      refine exec_report (x := .readSwitch) h rfl rfl rfl rfl (readSwitch_inTable s inTable) ?_
      unfold switchReply
      simp only [Switch.bytes, SwitchRun.bytes, ← timed, List.append_assoc]
      cases s.verdicts[j] with
      | none => rfl
      | some v =>
        simp only [v.bytes_eq]
        rfl
    · refine exec_refuseRange (x := .readSwitch) h rfl rfl rfl rfl ?_
      simp only [ownerOf, readSwitch, numbered_none hn above]
  case gate =>
    refine ⟨fun inTable => ?_, fun above hn => ?_⟩
    · refine exec_report (x := .readGate) h rfl rfl rfl rfl (readGate_inTable s inTable) ?_
      have record : s.map.gate n = s.map.gates[n] := by simp [TrackMap.gate, inTable]
      simp only [gateReply, record]
      rfl
    · refine exec_refuseRange (x := .readGate) h rfl rfl rfl rfl ?_
      simp only [ownerOf, readGate, numbered_none hn above]
  case car =>
    refine ⟨fun inTable => ?_, fun above hn => ?_⟩
    · intro r
      refine exec_report (x := .readCar) h rfl rfl rfl rfl (readCar_inTable s inTable) ?_
      show carReply r s.clock = _
      unfold carReply
      cases e : r.fix with
      | none =>
        simp only [Car.fixStale, e, timed, List.append_assoc]
        rfl
      | some f =>
        simp only [staleByte_fixStale e, timed, List.append_assoc]
        rfl
    · refine exec_refuseRange (x := .readCar) h rfl rfl rfl rfl ?_
      simp only [ownerOf, readCar, numbered_none hn above]
  case handset =>
    refine ⟨fun inTable => ?_, fun above hn => ?_⟩
    · intro r
      refine exec_report (x := .readHandset) h rfl rfl rfl rfl (readHandset_inTable s inTable) ?_
      show handsetReply ⟨n, inTable⟩ r = _
      unfold handsetReply
      simp only [isWired, decide_eq_true_eq, timed, paired, List.append_assoc]
      cases r.presence <;> rfl
    · refine exec_refuseRange (x := .readHandset) h rfl rfl rfl rfl ?_
      simp only [ownerOf, readHandset, numbered_none hn above]
  case readPairing =>
    refine exec_report (x := .readPairing) h rfl rfl rfl rfl rfl ((pairingReply_eq s).trans ?_)
    simp only [paired]
  case node =>
    refine ⟨fun inTable => ?_, fun above hn => ?_⟩
    · intro r record
      have recorded : [byte r.state.code, byte r.missCount, byte r.goodCount] ++ bytes2 r.exchanges ++
          bytes2 r.misses ++ timeOrNone r.lastAnswer ++ timeOrNone r.lastMiss = record := by
        simp only [timed, record]
        cases r.state <;> rfl
      have node := readNode_inTable s inTable
      constructor
      · intro isGate
        refine exec_report (x := .readNode) h rfl rfl rfl rfl node ?_
        rw [nodeReply_gate s inTable isGate]
        exact recorded
      intro hj j
      have fields := (nodeReply_switch s inTable hj).trans (congrArg (· ++ _) recorded)
      constructor
      · intro off
        refine exec_report (x := .readNode) h rfl rfl rfl rfl node (fields.trans ?_)
        rw [if_neg off, decide_eq_false off, urgentPlace_off off]
        rfl
      · intro before after urgent first
        have on : j ∈ s.loop.urgent := by simp [urgent]
        refine exec_report (x := .readNode) h rfl rfl rfl rfl node (fields.trans ?_)
        rw [if_pos on, decide_eq_true on, urgent, urgentPlace_eq first]
        cases s.switches[j].commanded <;> rfl
    · refine exec_refuseRange (x := .readNode) h rfl rfl rfl rfl ?_
      simp only [ownerOf, readNode, numbered_none hn above]

end Sys2Proof.Machine
end

section
/-!
O33. Every step keeps intents ARMED only in RUN and for bound cars. The law speaks of the race state and of each
car's intent and binding: an operation keeps it because it leaves those alone, clears the intent, binds the car,
or arms a bound car in RUN; and the race leaves RUN only with every intent cleared.
-/

namespace Sys2Proof.Machine

/-! ### One car's part of the law -/

/-- A car's intent is ARMED only while the race state given is RUN and the car is bound (R36). -/
def Car.IntentHeld (race : RaceState) (c : Car) : Prop := c.intent.isSome → race = .run ∧ c.binding.isSome

theorem Car.IntentHeld.of_none {race : RaceState} {c : Car} (none : c.intent = none) : c.IntentHeld race :=
  fun armed => by simp [none] at armed

/-- A state in which no intent is ARMED meets the law, whatever the race state. -/
theorem intentLaw_of_none {s : State} (none : ∀ c : CarNo, s.cars[c].intent = none) : IntentLaw s :=
  fun c => Car.IntentHeld.of_none (none c)

section Operations

variable {s t : State}

/-- Outside RUN no intent is ARMED. -/
theorem IntentLaw.none_outside_run (h : IntentLaw s) (race : s.race ≠ .run) (c : CarNo) :
    s.cars[c].intent = none := by
  cases armed : s.cars[c].intent with
  | none => rfl
  | some t => exact absurd (h c (by rw [armed]; rfl)).1 race

/-- A state that differs elsewhere only meets the law too. -/
theorem IntentLaw.elsewhere (h : IntentLaw s) (e : t = { t with cars := s.cars, race := s.race }) :
    IntentLaw t := by
  rw [e]
  exact h

theorem IntentLaw.modifyCar (h : IntentLaw s) (c : CarNo) {f : Car → Car}
    (k : (f s.cars[c]).IntentHeld s.race) : IntentLaw (s.modifyCar c f) := by
  intro d
  show (update s.cars c f)[d].IntentHeld s.race
  rw [update_get]
  split
  · next same => subst same; exact k
  · exact h d

theorem IntentLaw.updateAllCars {f : CarNo → Car → Car} (k : ∀ c, (f c s.cars[c]).IntentHeld s.race) :
    IntentLaw { s with cars := updateAll s.cars f } := by
  intro c
  show (updateAll s.cars f)[c].IntentHeld s.race
  rw [updateAll_get]
  exact k c

theorem IntentLaw.raise (h : IntentLaw s) (e : Event) : IntentLaw (raise e s) := h.elsewhere rfl

theorem IntentLaw.modifyPort (h : IntentLaw s) (p : Port) (f : PortState → PortState) :
    IntentLaw (s.modifyPort p f) := h.elsewhere rfl

theorem IntentLaw.modifyHandset (h : IntentLaw s) (n : HandsetNo) (f : Handset → Handset) :
    IntentLaw (s.modifyHandset n f) := h.elsewhere rfl

theorem IntentLaw.modifyNode (h : IntentLaw s) (a : NodeNo) (f : NodeRecord → NodeRecord) :
    IntentLaw (s.modifyNode a f) := h.elsewhere rfl

theorem IntentLaw.switches (h : IntentLaw s) (e : SwitchFootprint s t) : IntentLaw t := by
  rw [e]
  exact h.elsewhere rfl

theorem IntentLaw.used (h : IntentLaw s) (e : UseFootprint s t) : IntentLaw t := by
  rw [e]
  exact h.elsewhere rfl

theorem IntentLaw.followGateUse (h : IntentLaw s) (before after : Bool) (g : Fin 16) :
    IntentLaw (followGateUse before after g s) := by
  rw [followGateUse_footprint]
  exact h.elsewhere rfl

theorem IntentLaw.arbitrate (h : IntentLaw s) : IntentLaw (arbitrate s) := by
  rw [arbitrate_footprint]
  exact h.elsewhere rfl

theorem IntentLaw.wakeLoop (h : IntentLaw s) : IntentLaw (wakeLoop s) := by
  rw [wakeLoop_footprint]
  exact h.elsewhere rfl

theorem IntentLaw.foldl {α : Type} (h : IntentLaw s) (op : State → α → State)
    (k : ∀ u a, IntentLaw u → IntentLaw (op u a)) (l : List α) : IntentLaw (l.foldl op s) :=
  List.foldlRecOn l op h fun u hu a _ => k u a hu

/-! ### Pairing -/

/-- A car that is being bound keeps its intent. -/
theorem IntentLaw.makeBinding (h : IntentLaw s) (n : HandsetNo) (c : CarNo) (source : BindSource) :
    IntentLaw (makeBinding n c source s) := by
  have idle : IntentLaw (setPairing n (.bound c) s) := h.modifyHandset n _
  exact (idle.modifyCar c fun armed => ⟨(h c armed).1, rfl⟩).raise _

/-- A car whose binding is dissolved loses its intent with it (R68). -/
theorem IntentLaw.dissolve (h : IntentLaw s) (n : HandsetNo) (c : CarNo) (cause : UnbindCause) :
    IntentLaw (dissolve n c cause s) := by
  have idle : IntentLaw (setPairing n .idle s) := h.modifyHandset n _
  exact (idle.modifyCar c (.of_none rfl)).raise _

theorem IntentLaw.joinQueue (h : IntentLaw s) (n : HandsetNo) : IntentLaw (joinQueue n s) := h.elsewhere rfl

theorem IntentLaw.leaveQueue (h : IntentLaw s) (n : HandsetNo) : IntentLaw (leaveQueue n s) := h.elsewhere rfl

theorem IntentLaw.seekRequest (h : IntentLaw s) (n : HandsetNo) : IntentLaw (seekRequest n s) := by
  unfold Machine.seekRequest
  split
  · exact h.raise _
  · split
    · exact (h.dissolve n _ _).joinQueue n
    · exact h.joinQueue n
    · exact h.joinQueue n

theorem IntentLaw.pairingGateDetection (h : IntentLaw s) (c : CarNo) :
    IntentLaw (pairingGateDetection c s) := by
  unfold Machine.pairingGateDetection
  split
  · exact h
  · split
    · exact (h.leaveQueue _).makeBinding _ c _
    · exact h

/-! ### Handsets -/

/-- An arm request arms only in RUN and only a car bound to the handset (R36). -/
theorem IntentLaw.armRequest (h : IntentLaw s) (n : HandsetNo) (c : CarNo) : IntentLaw (armRequest n c s) := by
  unfold Machine.armRequest
  split
  · next taken =>
    obtain ⟨race, bound⟩ := taken
    exact h.modifyCar c fun _ => ⟨race, Option.isSome_iff_exists.mpr ⟨n, bound⟩⟩
  · exact h

theorem IntentLaw.takeButton (h : IntentLaw s) (n : HandsetNo) (level : Bool) :
    IntentLaw (takeButton n level s) := by
  unfold Machine.takeButton
  dsimp only
  split
  · exact h
  · split
    · split
      · exact (h.modifyHandset n _).armRequest n _
      · exact h.modifyHandset n _
      · exact h.modifyHandset n _
    · exact h.modifyHandset n _

theorem IntentLaw.debounceButton (h : IntentLaw s) (n : HandsetNo) (sample : Bool) :
    IntentLaw (debounceButton n sample s) := by
  unfold Machine.debounceButton
  refine IntentLaw.modifyHandset ?_ n _
  split
  · exact h.takeButton n sample
  · exact h

theorem IntentLaw.takeWiredResult (h : IntentLaw s) (n : HandsetNo) (raw : Nat) (sample : Bool) :
    IntentLaw (takeWiredResult n raw sample s) := by
  unfold Machine.takeWiredResult
  have seen := h.modifyHandset n fun r => { r with lastSample := s.clock }
  dsimp only
  split
  · split
    · exact (seen.modifyHandset n _).debounceButton n sample
    · split
      · exact (seen.modifyHandset n _).debounceButton n sample
      · exact (seen.modifyHandset n _).raise _
  all_goals
    split
    · exact seen.modifyHandset n _
    · split
      · exact seen.modifyHandset n _
      · exact (seen.modifyHandset n _).raise _

theorem IntentLaw.takeSample (h : IntentLaw s) (n : HandsetNo) (throttle : Nat) (pressed : Bool) :
    IntentLaw (takeSample n throttle pressed s) := by
  unfold Machine.takeSample
  have seen := h.modifyHandset n fun r => { r with
    lastSample := s.clock, holdEnd := some (later s.clock 2500), lostTime := some (later s.clock 5000) }
  dsimp only
  refine IntentLaw.takeButton (IntentLaw.modifyHandset ?_ n _) n pressed
  split
  · exact seen
  · exact (seen.modifyHandset n _).raise _

theorem IntentLaw.takeSamples (h : IntentLaw s) (samples : List Byte) : IntentLaw (takeSamples samples s) := by
  induction samples, s using Machine.takeSamples.induct with
  | case1 s n throttle pressed rest ih =>
    rw [Machine.takeSamples]
    apply ih
    split
    · exact h.takeSample _ _ _
    · exact h
  | case2 samples s short =>
    rw [Machine.takeSamples]
    · exact h
    · exact short

theorem IntentLaw.applyScan (h : IntentLaw s) (setCode intervalCode : Nat) :
    IntentLaw (applyScan setCode intervalCode s) := by
  rw [applyScan_footprint]
  exact h.elsewhere rfl

/-! ### Detections and the loop -/

theorem IntentLaw.takeDetection (h : IntentLaw s) (k : CarNo) (q : Sensor) (t : Time) :
    IntentLaw (takeDetection k q t s) := by
  unfold Machine.takeDetection
  split
  · exact h.modifyCar k (h k)
  · exact h.modifyCar k (h k)
  · refine IntentLaw.raise (h.modifyCar k ?_) _
    exact h k

theorem IntentLaw.handOnVerdict (h : IntentLaw s) (v : VerdictRecord) : IntentLaw (handOnVerdict v s) := by
  refine IntentLaw.switches ?_ (carryOutGrant_switchFootprint v _)
  rw [saturationReport_footprint]
  exact h.elsewhere rfl

theorem IntentLaw.entryDetection (h : IntentLaw s) (k : CarNo) (j : SwitchNo) (t : Time) :
    IntentLaw (entryDetection k j t s) := by
  unfold Machine.entryDetection
  split
  · exact IntentLaw.handOnVerdict ((h.modifyCar k (.of_none rfl)).switches (supersede_switchFootprint k _)) _
  · exact h

theorem IntentLaw.takePassage (h : IntentLaw s) (k : CarNo) (j : SwitchNo) (thrownExit : Bool) :
    IntentLaw (takePassage k j thrownExit s) := by
  unfold Machine.takePassage
  have removed := h.switches (setList_switchFootprint j (withoutCar s.lists[j] k) s)
  split
  · dsimp only
    split
    · exact removed.switches (returnIfEmpty_switchFootprint j _)
    · refine IntentLaw.switches (IntentLaw.raise (removed.modifyCar k ?_) _) (returnIfEmpty_switchFootprint j _)
      exact h k
  · split
    · exact h.raise _
    · exact h

theorem IntentLaw.handOn (h : IntentLaw s) (k : CarNo) (q : Sensor) (t : Time) : IntentLaw (handOn k q t s) := by
  have passed (j : SwitchNo) (thrownExit : Bool) : IntentLaw (passage k j thrownExit s) :=
    (h.switches (modifySwitch_switchFootprint j _ s)).takePassage k j thrownExit
  unfold Machine.handOn
  split
  · split
    · exact h.entryDetection k _ t
    · exact h
  · exact passed _ _
  · exact passed _ _
  · split
    · exact h.pairingGateDetection k
    · exact h
  · exact h

theorem IntentLaw.takeRecord (h : IntentLaw s) (a : NodeNo) (d : Detection) : IntentLaw (takeRecord a s d) := by
  unfold Machine.takeRecord
  split
  · dsimp only
    split
    · exact (h.takeDetection _ _ _).handOn _ _ _
    · exact h.raise _
  · exact h.raise _

theorem IntentLaw.takeRecords (h : IntentLaw s) (a : NodeNo) (r : NodeReply) : IntentLaw (takeRecords a r s) := by
  have records : IntentLaw ((oldestFirst r.detections).foldl (Machine.takeRecord a) s) :=
    h.foldl _ (fun _ d u => u.takeRecord a d) _
  unfold Machine.takeRecords
  dsimp only
  split
  · exact records.raise _
  · exact records

theorem IntentLaw.tellNews (h : IntentLaw s) (a : NodeNo) (news : NodeNews) : IntentLaw (tellNews a news s) := by
  unfold Machine.tellNews
  split
  · exact h
  · unfold nodeFaults
    dsimp only
    split
    · exact (h.raise _).switches (enterFault_switchFootprint _ _ _)
    · exact h.raise _
  · exact h.raise _

theorem IntentLaw.takeMiss (h : IntentLaw s) (a : NodeNo) : IntentLaw (takeMiss a s) :=
  (h.modifyNode a _).tellNews a _

theorem IntentLaw.takeReply (h : IntentLaw s) (a : NodeNo) (r : NodeReply) : IntentLaw (takeReply a r s) := by
  have answered : IntentLaw (takeAnswer a s) := (h.modifyNode a _).tellNews a _
  unfold Machine.takeReply
  dsimp only
  refine IntentLaw.takeRecords ?_ a r
  split
  · exact answered.switches (takePosition_switchFootprint _ _ _)
  · exact answered

/-- An exchange's end keeps the law when its outcome does. -/
theorem IntentLaw.endExchange (h : IntentLaw s) (x : Exchange) {outcome : State → State}
    (k : IntentLaw (outcome s)) : IntentLaw (endExchange x outcome s) := by
  unfold Machine.endExchange
  refine IntentLaw.arbitrate ?_
  split
  · exact h
  · rw [moveServed_footprint]
    exact k.elsewhere rfl

/-! ### Race states -/

/-- The race enters another state from one that is not RUN with no intent ARMED. -/
theorem IntentLaw.changeRace (h : IntentLaw s) (race : s.race ≠ .run) (x : RaceState) (cause : RaceCause) :
    IntentLaw (changeRace x cause s) :=
  intentLaw_of_none (s := Machine.changeRace x cause s) (h.none_outside_run race)

/-- With every intent cleared the law holds in any race state (R37). -/
theorem intentLaw_clearIntents (s : State) : IntentLaw (clearIntents s) :=
  IntentLaw.updateAllCars fun _ => .of_none rfl

theorem intentLaw_haltRace (cause : RaceCause) (s : State) : IntentLaw (haltRace cause s) :=
  (intentLaw_clearIntents _).switches (haltRace_switchFootprint cause s)

theorem intentLaw_warmRestart (s : State) : IntentLaw (warmRestart s) :=
  (IntentLaw.updateAllCars fun _ => .of_none rfl :
    IntentLaw { s with cars := updateAll s.cars fun _ => Car.warmRestart }).elsewhere rfl

theorem IntentLaw.takeRailFault (h : IntentLaw s) : IntentLaw (takeRailFault s) := by
  unfold Machine.takeRailFault
  dsimp only
  split
  · exact intentLaw_haltRace .rail _
  · exact intentLaw_haltRace .rail _
  · exact h.elsewhere rfl
  · exact h.elsewhere rfl

/-! ### Map writes, profiles and loads -/

theorem IntentLaw.withMap (h : IntentLaw s) (m : TrackMap) : IntentLaw { s with map := m } := h.elsewhere rfl

theorem IntentLaw.mapWriteEffects (h : IntentLaw s) : IntentLaw (mapWriteEffects s) :=
  (IntentLaw.updateAllCars (f := fun _ => Car.clearFix) h).elsewhere rfl

/-- A car that is disabled is left without an intent (R22). -/
theorem IntentLaw.storeProfile (h : IntentLaw s) (c : CarNo) (p : Profile) : IntentLaw (storeProfile c p s) := by
  have stored := h.modifyCar c (f := fun r => { r with profile := p }) (h c)
  unfold Machine.storeProfile
  dsimp only
  split
  · refine IntentLaw.modifyCar ?_ c (.of_none rfl)
    unfold dissolveDisabled
    split
    · exact stored.dissolve _ _ _
    · exact stored
  · exact stored

theorem IntentLaw.publishFrame (h : IntentLaw s) : IntentLaw (publishFrame s) :=
  (IntentLaw.updateAllCars (f := fun c r => r.takeStep (publishedStep s c)) h).elsewhere rfl

/-- A load leaves every intent NONE (R201). -/
theorem intentLaw_applyLoad (i : Image) (s : State) : IntentLaw (applyLoad i s) := by
  unfold applyLoad
  refine IntentLaw.wakeLoop (IntentLaw.raise ?_ _)
  generalize loadMap i.map s = u
  refine intentLaw_of_none fun c => ?_
  show (updateAll u.cars fun c r => r.loaded i.profiles[c] (i.binding c))[c].intent = none
  rw [updateAll_get]
  rfl

theorem IntentLaw.completeLoad (h : IntentLaw s) : IntentLaw (completeLoad s) := by
  unfold Machine.completeLoad
  split
  · exact h.elsewhere rfl
  · exact intentLaw_applyLoad _ s

end Operations

/-! ### Owners of requests -/

section Owners

variable {s : State}

theorem IntentLaw.validated (h : IntentLaw s) (b : Bool) : IntentLaw { s with mapValid := b } := h.elsewhere rfl

/-- SET RACE STATE: RUN is entered from a state without intents, and left with every intent cleared (R165 to
R168). -/
theorem IntentLaw.startRace (h : IntentLaw s) : IntentLaw (startRace s).1 := by
  unfold Machine.startRace
  split
  · next setup => exact enterRun_keeps h h.validated ((h.validated true).changeRace (by simp [setup]) _ _)
  all_goals exact h

theorem IntentLaw.cautionRace (h : IntentLaw s) : IntentLaw (cautionRace s).1 := by
  unfold Machine.cautionRace
  split
  · exact intentLaw_clearIntents _
  all_goals exact h

theorem IntentLaw.clearCautionRace (h : IntentLaw s) : IntentLaw (clearCautionRace s).1 := by
  unfold Machine.clearCautionRace
  split
  · next caution => exact h.changeRace (by simp [caution]) _ _
  all_goals exact h

theorem IntentLaw.haltRequest (h : IntentLaw s) : IntentLaw (haltRequest s).1 := by
  unfold Machine.haltRequest
  split
  · exact h
  all_goals
    rw [accept_state]
    exact intentLaw_haltRace .halt s

theorem IntentLaw.resumeRace (h : IntentLaw s) : IntentLaw (resumeRace s).1 := by
  unfold Machine.resumeRace
  split
  · next halt =>
    have halted : (Machine.warmRestart { s with mapValid := true }).race ≠ .run := by
      show s.race ≠ .run
      simp [halt]
    exact enterRun_keeps h h.validated ((intentLaw_warmRestart _).changeRace halted _ _)
  all_goals exact h

theorem IntentLaw.setupRace (h : IntentLaw s) : IntentLaw (setupRace s).1 := by
  unfold Machine.setupRace
  split
  · next halt => exact h.changeRace (by simp [halt]) _ _
  all_goals exact h

theorem IntentLaw.writeSegment (h : IntentLaw s) (body : List Byte) : IntentLaw (writeSegment body s).1 := by
  unfold Machine.writeSegment
  split
  · dsimp only
    split
    · exact mapWrite_keeps h fun _ _ => (h.withMap _).mapWriteEffects
    · exact mapWrite_keeps h fun _ _ => h
  · exact h

theorem IntentLaw.writeSwitch (h : IntentLaw s) (body : List Byte) : IntentLaw (writeSwitch body s).1 := by
  unfold Machine.writeSwitch
  split
  · dsimp only
    split
    · exact mapWrite_keeps h fun _ _ =>
        ((h.withMap _).mapWriteEffects.used (followSwitchUse_useFootprint _ _ _ _)).wakeLoop
    · exact mapWrite_keeps h fun _ _ => h
  · exact h

theorem IntentLaw.writeGate (h : IntentLaw s) (body : List Byte) : IntentLaw (writeGate body s).1 := by
  unfold Machine.writeGate
  split
  · dsimp only
    split
    · exact mapWrite_keeps h fun _ _ => ((h.withMap _).mapWriteEffects.followGateUse _ _ _).wakeLoop
    · exact mapWrite_keeps h fun _ _ => h
  · exact h

theorem IntentLaw.setPairingGate (h : IntentLaw s) (body : List Byte) : IntentLaw (setPairingGate body s).1 := by
  unfold Machine.setPairingGate
  split
  · exact mapWrite_keeps h fun _ _ => (h.withMap _).mapWriteEffects
  · exact h

theorem IntentLaw.writeProfile (h : IntentLaw s) (body : List Byte) : IntentLaw (writeProfile body s).1 := by
  unfold Machine.writeProfile
  split
  · dsimp only
    split
    · exact h
    · split
      · exact h
      · split
        · split
          · exact h.storeProfile _ _
          · exact h
        · exact h
  · exact h

theorem IntentLaw.writeCalibration (h : IntentLaw s) (body : List Byte) :
    IntentLaw (writeCalibration body s).1 := by
  unfold Machine.writeCalibration
  split
  · dsimp only
    split
    · exact h
    · split
      · split
        · exact h.modifyHandset _ _
        · exact h
      · exact h
  · exact h

theorem IntentLaw.setScan (h : IntentLaw s) (body : List Byte) : IntentLaw (setScan body s).1 := by
  unfold Machine.setScan
  split
  · split
    · exact h
    · split
      · exact h
      · exact h.applyScan _ _
  · exact h

theorem IntentLaw.bindRequest (h : IntentLaw s) (body : List Byte) : IntentLaw (bindRequest body s).1 := by
  unfold Machine.bindRequest bindPair
  split
  · split
    · split
      · exact h
      · split
        · exact h
        · split
          · exact h
          · exact (h.leaveQueue _).makeBinding _ _ _
    · exact h
  · exact h

theorem IntentLaw.unbindRequest (h : IntentLaw s) (body : List Byte) : IntentLaw (unbindRequest body s).1 := by
  unfold Machine.unbindRequest unbindHandset
  split
  · split
    · split
      · exact h
      · split
        · exact h.dissolve _ _ _
        · exact h.elsewhere rfl
        · exact h
    · exact h
  · exact h

theorem IntentLaw.setCycleTrim (h : IntentLaw s) (body : List Byte) : IntentLaw (setCycleTrim body s).1 := by
  unfold Machine.setCycleTrim
  split
  · split
    · exact h
    · split
      · exact h
      · exact h.elsewhere rfl
  · exact h

theorem IntentLaw.setLimits (h : IntentLaw s) (body : List Byte) : IntentLaw (setLimits body s).1 := by
  unfold Machine.setLimits
  split
  · dsimp only
    split
    · exact h
    · split
      · exact h
      · split
        · exact h
        · exact h.elsewhere rfl
  · exact h

/-- Every request's owner keeps the law. -/
theorem IntentLaw.owner (h : IntentLaw s) (p : Port) (x : Request) (body : List Byte) :
    IntentLaw (ownerOf p x body s).1 := by
  cases x with
  | identify | status | badTarget | readPairing => exact h
  | readEvents | clearQueue => exact h.elsewhere rfl
  | setEventMask =>
    dsimp only [ownerOf]
    unfold setMask
    split
    · exact h.elsewhere rfl
    · exact h
  | clearFlags =>
    dsimp only [ownerOf]
    unfold clearFlags
    split
    · exact h.elsewhere rfl
    · exact h
  | start => exact h.startRace
  | caution => exact h.cautionRace
  | clearCaution => exact h.clearCautionRace
  | halt => exact h.haltRequest
  | resume => exact h.resumeRace
  | setup => exact h.setupRace
  | railFault => exact h.takeRailFault
  | railClear =>
    dsimp only [ownerOf]
    unfold clearRail
    split
    · exact h.elsewhere rfl
    · exact h
  | writeSegment => exact h.writeSegment body
  | readSegment => exact (readSegment_state body s).symm ▸ h
  | writeSwitch => exact h.writeSwitch body
  | readSwitch => exact (readSwitch_state body s).symm ▸ h
  | writeGate => exact h.writeGate body
  | readGate => exact (readGate_state body s).symm ▸ h
  | setPairingGate => exact h.setPairingGate body
  | validateMap =>
    dsimp only [ownerOf]
    unfold validateMap
    split
    · exact h
    · exact h.validated _
  | writeProfile => exact h.writeProfile body
  | readCar => exact (readCar_state body s).symm ▸ h
  | writeCalibration => exact h.writeCalibration body
  | setScan => exact h.setScan body
  | readRaw =>
    dsimp only [ownerOf]
    unfold readRaw
    split
    · split
      · exact h.elsewhere rfl
      · exact h
    · exact h
  | readHandset => exact (readHandset_state body s).symm ▸ h
  | postSamples => exact h.takeSamples body.tail
  | bind => exact h.bindRequest body
  | unbind => exact h.unbindRequest body
  | lockSwitch => exact switchRequest_keeps h fun j => h.switches (lockSwitch_switchFootprint j s)
  | unlockSwitch => exact switchRequest_keeps h fun j => h.switches (unlockSwitch_switchFootprint j s)
  | clearSwitch => exact switchRequest_keeps h fun j => h.switches (clearSwitch_switchFootprint j s)
  | readNode => exact (readNode_state body s).symm ▸ h
  | fetchFrame =>
    dsimp only [ownerOf]
    unfold fetchFrame
    split
    · exact h
    · exact h.elsewhere rfl
  | setCycleTrim => exact h.setCycleTrim body
  | setLimits => exact h.setLimits body
  | saveImage => exact storeRequest_keeps h (h.elsewhere rfl)
  | loadImage => exact storeRequest_keeps h (h.elsewhere rfl)
  | restart =>
    dsimp only [ownerOf]
    unfold acceptRestart
    split
    · exact h
    · exact h.elsewhere rfl

end Owners

/-! ### Commands -/

/-- A power-on reset leaves every intent NONE (R23). -/
theorem intentLaw_powerOn (x : Straps) (s : State) : IntentLaw (powerOn x s) :=
  intentLaw_of_none fun c => by
    show State.reset.cars[c].intent = none
    rw [reset_cars]
    rfl

/-- Every command keeps the law. -/
theorem IntentLaw.command (i : Instr) (s t : State) (h : IntentLaw s) (e : exec i s = .next t) :
    IntentLaw t := by
  have reply (p : Port) (status : Byte) (body : List Byte) (u : State) (k : IntentLaw u) :
      IntentLaw (withReply p status body u) := k.modifyPort p _
  have port (p : Port) (f : PortState → PortState) (u : State) (k : IntentLaw u) :
      IntentLaw (u.modifyPort p f) := k.modifyPort p f
  cases i using instr_rowCases with
  | request x p =>
    rw [exec_request] at e
    exact serve_keeps e h (reply p) fun body => h.owner p x body
  | chipSelectFall p =>
    dsimp only [exec, execChipSelectFall] at e
    exact whenRunning_keeps e h fun _ => port p _ s h
  | chipSelectRise p =>
    exact whenRunning_keeps e h fun _ =>
      raiseSelect_keeps h (port p) (fun x body => h.owner p x body) intentLaw_powerOn
  | unknownRequest p => exact serveUnknown_keeps e h (reply p)
  | masterSendsByte p b =>
    exact whenRunning_keeps e h fun _ => clockPort_keeps h (port p) fun x body => h.owner p x body
  | resetPinAssert =>
    obtain rfl := Host.Outcome.next.inj e
    exact h.elsewhere rfl
  | powerOnReset x =>
    obtain rfl := Host.Outcome.next.inj e
    exact intentLaw_powerOn x s
  | intervalTimerExpiry =>
    dsimp only [exec, execIntervalTimerExpiry] at e
    refine whenRunning_keeps e h fun _ => ?_
    split
    · exact h.elsewhere rfl
    · exact h
  | roundResult ch raw pressed =>
    dsimp only [exec, execRoundResult] at e
    refine whenRunning_keeps e h fun _ => ?_
    split
    · exact h
    · split
      · exact IntentLaw.takeWiredResult (h.elsewhere rfl) _ _ _
      · exact h
  | holdEnd n =>
    dsimp only [exec, execHoldEnd] at e
    refine whenRunning_keeps e h fun _ => ?_
    split
    · exact h.modifyHandset n _
    · exact h
  | lostTime n =>
    dsimp only [exec, execLostTime] at e
    refine whenRunning_keeps e h fun _ => ?_
    split
    · exact (h.modifyHandset n _).raise _
    · exact h
  | holdTimerExpiry n =>
    dsimp only [exec, execHoldTimerExpiry] at e
    refine whenRunning_keeps e h fun _ => ?_
    split
    · exact (h.modifyHandset n _).seekRequest n
    · exact h
  | seekTimerExpiry n =>
    dsimp only [exec, execSeekTimerExpiry] at e
    refine whenRunning_keeps e h fun _ => ?_
    split
    · exact h
    · split
      · exact h.elsewhere rfl
      · exact h
  | intentExpiry c =>
    dsimp only [exec, execIntentExpiry] at e
    refine whenRunning_keeps e h fun _ => ?_
    split
    · exact h.modifyCar c (.of_none rfl)
    · exact h
  | ageExpiry c =>
    dsimp only [exec, execAgeExpiry] at e
    refine whenRunning_keeps e h fun _ => ?_
    split
    · exact h.modifyCar c (h c)
    · exact h
  | staleExpiry j c =>
    dsimp only [exec, execStaleExpiry] at e
    refine whenRunning_keeps e h fun _ => ?_
    split
    · exact h
    · exact ((h.switches (setList_switchFootprint j _ s)).raise _).switches (returnIfEmpty_switchFootprint j _)
  | deadlineExpiry j =>
    dsimp only [exec, execDeadlineExpiry] at e
    refine whenRunning_keeps e h fun _ => ?_
    split
    · exact h.switches (enterFault_switchFootprint j _ s)
    · exact h
  | cycleEnd =>
    dsimp only [exec, execCycleEnd] at e
    refine whenRunning_keeps e h fun _ => ?_
    split
    · exact h.publishFrame
    · exact h
  | pollSent =>
    dsimp only [exec, execPollSent] at e
    refine whenRunning_keeps e h fun _ => ?_
    split
    · exact h
    · split
      · exact h.elsewhere rfl
      · exact h
  | replyReceived r =>
    dsimp only [exec, execReplyReceived] at e
    refine whenRunning_keeps e h fun _ => ?_
    split
    · exact h
    · split
      · refine h.endExchange _ ?_
        split
        · exact h.takeMiss _
        · exact h.takeReply _ r
      · exact h
  | replyTimeout =>
    dsimp only [exec, execReplyTimeout] at e
    refine whenRunning_keeps e h fun _ => ?_
    split
    · exact h
    · split
      · exact h.endExchange _ (h.takeMiss _)
      · exact h
  | saveWriteConfirm =>
    dsimp only [exec, execSaveWriteConfirm] at e
    refine whenRunning_keeps e h fun _ => ?_
    split
    · rw [confirmWrite_footprint]
      exact h.elsewhere rfl
    all_goals exact h
  | saveWriteTimeout =>
    dsimp only [exec, execSaveWriteTimeout] at e
    refine whenRunning_keeps e h fun _ => ?_
    split
    · split
      · exact h.elsewhere rfl
      · exact h
    all_goals exact h
  | loadComplete =>
    dsimp only [exec, execLoadComplete] at e
    refine whenRunning_keeps e h fun _ => ?_
    split
    · exact h.completeLoad
    all_goals exact h

/-- Settles O33: every command keeps the law, and so do the queue, the choices and the passing of time. -/
theorem intentLawKept : Obligations.IntentLawKept :=
  keptByEveryStep_of_exec IntentLaw.command (fun _ _ h => h.elsewhere rfl) (fun _ _ h => h.elsewhere rfl)
    fun _ h => h.elsewhere rfl

end Sys2Proof.Machine
end

section
/-!
O2. What an idle step takes: which row owns an ended frame, which expiries the clock has reached, and how the
choice among what is due is made.
-/

namespace Sys2Proof.Machine

/-! ### Times reached (Section 6.3) -/

/-- One count lies less than half a turn past another exactly when a small number added to the other gives it. -/
theorem sub_toNat_lt_iff {w n : Nat} (a b : BitVec w) :
    (a - b).toNat < n ↔ ∃ k < n, a = b + BitVec.ofNat w k := by
  constructor
  · intro near
    refine ⟨(a - b).toNat, near, ?_⟩
    rw [BitVec.ofNat_toNat, BitVec.setWidth_eq, BitVec.add_comm, BitVec.sub_add_cancel]
  · rintro ⟨k, small, rfl⟩
    rw [BitVec.add_comm, BitVec.add_sub_cancel, BitVec.toNat_ofNat]
    exact (Nat.mod_le _ _).trans_lt small

theorem reached_iff (now t : Time) : reached now t = true ↔ ∃ n < 2 ^ 31, now = t + BitVec.ofNat 32 n :=
  decide_eq_true_iff.trans (sub_toNat_lt_iff now t)

theorem hasReached_iff (now t : Instant) :
    now.hasReached t = true ↔ ∃ n < 2 ^ 33, now.bits = t.bits + BitVec.ofNat 34 n :=
  decide_eq_true_iff.trans (sub_toNat_lt_iff now.bits t.bits)

theorem due_iff (now : Time) (t : Option Time) :
    due now t = true ↔ ∃ x, t = some x ∧ reached now x = true := by
  cases t <;> simp [due]

/-- An instant reads back from its count of quarters. -/
theorem Instant.bits_ofBits (b : BitVec 34) : (Instant.ofBits b).bits = b := by
  unfold Instant.bits Instant.ofBits
  ext i hi
  simp only [BitVec.getElem_append, BitVec.getElem_extractLsb']
  split
  · simp [BitVec.getLsbD_eq_getElem hi]
  · rw [← BitVec.getLsbD_eq_getElem hi]
    congr 1
    omega

/-- An idle quarter with nothing due advances the present instant by one. -/
theorem passQuarter_now (s : State) : (passQuarter s).now.bits = s.now.bits + 1 :=
  Instant.bits_ofBits (s.now.bits + 1)

/-! ### The row of an ended frame (R180, R185) -/

theorem code_mem_catalogue (x : Request) : x.code ∈ catalogueCodes := by cases x <;> decide

/-- A row's frames carry its code. -/
theorem Request.owns_code {x : Request} {f : Frame} (h : x.owns f = true) : f.code = x.code := by
  unfold Request.owns at h
  exact beq_iff_eq.mp (Bool.and_eq_true_iff.mp h).1

theorem Request.owns_untargeted {x : Request} (target : x.target = none) (proper : x ≠ .badTarget) (f : Frame) :
    x.owns f = (f.code == x.code) := by
  simp [Request.owns, target, proper]

theorem Request.owns_targeted {x : Request} {t : Byte} (target : x.target = some t) (f : Frame) :
    x.owns f = (f.code == x.code && f.body.head? == some t) := by
  simp [Request.owns, target]

/-- The row found for a frame is the one that owns it: codes tell rows apart, and target bytes the rows of SET
RACE STATE. -/
theorem requestOf_of_owns {x : Request} {f : Frame} (h : x.owns f = true) : requestOf f = some x := by
  have code := Request.owns_code h
  obtain ⟨_, length, body⟩ := f
  obtain rfl := code
  have target {t : Byte} (e : x.target = some t) : ∃ rest, body = t :: rest := by
    rw [Request.owns_targeted e] at h
    exact List.head?_eq_some_iff.mp (beq_iff_eq.mp (Bool.and_eq_true_iff.mp h).2)
  cases x with
  | start | caution | clearCaution | halt | resume | setup =>
    obtain ⟨rest, rfl⟩ := target rfl
    rfl
  | badTarget =>
    cases body with
    | nil => rfl
    | cons b rest =>
      have above : 5 < b.toNat := by simpa [Request.owns, Request.target] using h
      have other {t : Byte} (small : t.toNat ≤ 5) : (b == t) = false := by
        rw [beq_eq_false_iff_ne]
        rintro rfl
        omega
      simp [requestOf, requests, Request.owns, Request.target, Request.code, other, above]
  | _ => rfl

/-- A code of SET RACE STATE is owned by the row of its target byte, or by the last row without one of the six. -/
theorem exists_raceRow {f : Frame} (code : f.code = 0x10) : ∃ x : Request, x.owns f = true := by
  by_cases named : f.body.head?.all (5 < ·.toNat) = true
  · exact ⟨.badTarget, by simp [Request.owns, Request.target, Request.code, code, named]⟩
  · obtain ⟨b, head, small⟩ : ∃ b : Byte, f.body.head? = some b ∧ b.toNat ≤ 5 := by
      cases head : f.body.head? with
      | none => simp [head] at named
      | some b => exact ⟨b, rfl, by simpa [head] using named⟩
    have rows : ∀ n < 6, ∃ x ∈ requests, x.target = some (byte n) ∧ x.code = 0x10 := by decide
    obtain ⟨x, -, target, same⟩ := rows b.toNat (by omega)
    rw [byte_ofToNat] at target
    exact ⟨x, by simp [Request.owns_targeted target, code, same, head]⟩

/-- Every code of the catalogue outside SET RACE STATE is that of a row without a target. -/
theorem exists_untargetedRow {c : Byte} (h : c ∈ catalogueCodes) (other : c ≠ 0x10) :
    ∃ x : Request, x.code = c ∧ x.target = none ∧ x ≠ .badTarget := by
  have table : ∀ c ∈ catalogueCodes, c ≠ 0x10 →
      ∃ x ∈ requests, x.code = c ∧ x.target = none ∧ x ≠ .badTarget := by decide
  obtain ⟨x, -, row⟩ := table c h other
  exact ⟨x, row⟩

theorem exists_owner_iff (f : Frame) : (∃ x : Request, x.owns f = true) ↔ f.code ∈ catalogueCodes := by
  constructor
  · rintro ⟨x, owned⟩
    rw [Request.owns_code owned]
    exact code_mem_catalogue x
  · intro known
    by_cases race : f.code = 0x10
    · exact exists_raceRow race
    · obtain ⟨x, code, target, proper⟩ := exists_untargetedRow known race
      exact ⟨x, by simp [Request.owns_untargeted target proper, code]⟩

/-- The command that takes an ended frame is its row's, or UNKNOWN_REQUEST for a code outside the catalogue. -/
theorem eq_requestCommand_iff (p : Port) (f : Frame) (c : Instr) : c = requestCommand p f ↔
    (f.code ∉ catalogueCodes ∧ c = .unknownRequest p) ∨ ∃ x : Request, x.owns f = true ∧ c = x.instr p := by
  unfold requestCommand
  by_cases known : ∃ x : Request, x.owns f = true
  · obtain ⟨x, owned⟩ := known
    have unique (y : Request) : y.owns f = true ↔ y = x := by
      constructor
      · exact fun owns => Option.some.inj ((requestOf_of_owns owns).symm.trans (requestOf_of_owns owned))
      · rintro rfl
        exact owned
    simp [requestOf_of_owns owned, unique, (exists_owner_iff f).mp ⟨x, owned⟩]
  · have none : requestOf f = none := List.find?_eq_none.mpr fun x _ owned => known ⟨x, owned⟩
    have unknown : f.code ∉ catalogueCodes := fun known' => known ((exists_owner_iff f).mpr known')
    have nobody (x : Request) : x.owns f = false := Bool.eq_false_iff.mpr fun owned => known ⟨x, owned⟩
    simp [none, unknown, nobody]

/-! ### What is due, block by block -/

section Due

variable {s : State} {c : Instr}

theorem endedFrame_eq_some_iff {p : Port} {f : Frame} :
    endedFrame p s = some f ↔ (s.ports.get p).phase = .taking ∧ (s.ports.get p).request = some f := by
  unfold endedFrame
  split <;> simp [*]

theorem mem_dueRequests : c ∈ dueRequests s ↔
    ∃ (p : Port) (f : Frame), (s.ports.get p).phase = .taking ∧ (s.ports.get p).request = some f ∧
      c = requestCommand p f := by
  have port (p : Port) : p ∈ [Port.base, .console, .radio] := by cases p <;> decide
  simp only [dueRequests, List.mem_filterMap, port, true_and, Option.map_eq_some_iff, endedFrame_eq_some_iff,
    and_assoc, eq_comm (a := c)]

/-- The queue entry of a handset has its seek timer due. -/
theorem due_seekTimer {h : HandsetNo} :
    due s.clock ((seekOf h s).map fun e => later e.joined 200000) = true ↔
    ∃ e, s.seeks.find? (fun x => x.handset == h) = some e ∧ reached s.clock (e.joined + 200000) = true := by
  unfold seekOf
  cases s.seeks.find? (fun x => x.handset == h) <;> simp [due, later]

theorem due_holdTimer {h : HandsetNo} : due s.clock (holdExpiry s.handsets[h]) = true ↔
    ∃ t, s.handsets[h].holdTimer = some t ∧ reached s.clock (t + 20000) = true := by
  unfold holdExpiry
  cases s.handsets[h].holdTimer <;> simp [due, later]

theorem mem_dueHandsets : c ∈ dueHandsets s ↔
    (c = .intervalTimerExpiry ∧ reached s.clock s.scanner.nextRound = true) ∨
    (∃ (h : HandsetNo) (t : Time), s.handsets[h].holdEnd = some t ∧ reached s.clock t = true ∧ c = .holdEnd h) ∨
    (∃ (h : HandsetNo) (t : Time), s.handsets[h].lostTime = some t ∧ reached s.clock t = true ∧ c = .lostTime h) ∨
    (∃ (h : HandsetNo) (t : Time), s.handsets[h].holdTimer = some t ∧ reached s.clock (t + 20000) = true ∧
      c = .holdTimerExpiry h) ∨
    ∃ (h : HandsetNo) (e : Seek), s.seeks.find? (fun x => x.handset == h) = some e ∧
      reached s.clock (e.joined + 200000) = true ∧ c = .seekTimerExpiry h := by
  simp only [dueHandsets, List.mem_append, List.mem_flatMap, mem_handsetNos, true_and, List.mem_ite_nil_right,
    List.mem_singleton, due_holdTimer, due_seekTimer]
  simp only [due_iff, exists_or, or_assoc, ← exists_and_right, and_assoc, and_comm (a := c = .intervalTimerExpiry)]

theorem mem_dueCars : c ∈ dueCars s ↔
    (∃ (k : CarNo) (t : Time), s.cars[k].intent = some t ∧ reached s.clock t = true ∧ c = .intentExpiry k) ∨
    ∃ (k : CarNo) (t : Time), s.cars[k].ageExpiry = some t ∧ reached s.clock t = true ∧ c = .ageExpiry k := by
  simp only [dueCars, List.mem_append, List.mem_flatMap, mem_carNos, true_and, List.mem_ite_nil_right,
    List.mem_singleton, due_iff, exists_or, ← exists_and_right, and_assoc]

theorem mem_dueSwitches : c ∈ dueSwitches s ↔
    (∃ (j : SwitchNo) (e : Reservation), e ∈ s.lists[j] ∧ reached s.clock e.staleAt = true ∧
      c = .staleExpiry j e.car) ∨
    ∃ (j : SwitchNo) (t : Time), s.switches[j].deadline = some t ∧ reached s.clock t = true ∧
      c = .deadlineExpiry j := by
  simp only [dueSwitches, List.mem_append, List.mem_flatMap, mem_switchNos, true_and, List.mem_map,
    List.mem_filter, List.mem_ite_nil_right, List.mem_singleton, due_iff, exists_or, ← exists_and_right, and_assoc,
    eq_comm (a := c)]

theorem mem_dueOthers : c ∈ dueOthers s ↔
    (c = .cycleEnd ∧ s.now.hasReached s.frames.cycleEnd = true) ∨
    (∃ (x : Exchange) (t : Time), s.loop.exchange = some x ∧ x.replyBy = some t ∧ reached s.clock t = true ∧
      c = .replyTimeout) ∨
    ∃ p : SaveProgress, s.store = .saving p ∧ reached s.clock p.confirmBy = true ∧ c = .saveWriteTimeout := by
  unfold dueOthers
  rw [List.mem_append, List.mem_append, or_assoc]
  refine or_congr ?cycle (or_congr ?reply ?write)
  case cycle => simp only [List.mem_ite_nil_right, List.mem_singleton, and_comm]
  case reply => cases s.loop.exchange <;> simp [due_iff, ← exists_and_right, and_assoc]
  case write => cases s.store <;> simp

theorem mem_dueCommands : c ∈ dueCommands s ↔
    c ∈ dueRequests s ∨ c ∈ dueHandsets s ∨ c ∈ dueCars s ∨ c ∈ dueSwitches s ∨ c ∈ dueOthers s := by
  simp only [dueCommands, List.mem_append, or_assoc]

/-! ### The choice among what is due -/

theorem step_of_idle (empty : s.pending = []) : step s = idle s := by
  unfold step
  rw [empty]

theorem idle_held (held : s.resetHeld = true) : idle s = .next s := by
  simp [idle, nextDue, idleTime, held]

theorem idle_nothing (running : s.resetHeld = false) (nothing : dueCommands s = []) :
    idle s = .next (passQuarter s) := by
  simp [idle, nextDue, idleTime, running, nothing]

theorem idle_single (running : s.resetHeld = false) (single : dueCommands s = [c]) : idle s = exec c s := by
  simp [idle, nextDue, running, single]

/-- Of several things due one is taken, and the choice is counted (log entry 4). -/
theorem idle_several (running : s.resetHeld = false) {d : Instr} {cs : List Instr}
    (several : dueCommands s = c :: d :: cs) :
    ∃ x ∈ c :: d :: cs, idle s = exec x { s with picks := s.picks + 1 } := by
  set pick := Config.duePick s.picks % ((d :: cs).length + 1) with choice
  have inside : pick < (c :: d :: cs).length := Nat.mod_lt _ (Nat.succ_pos _)
  refine ⟨(c :: d :: cs)[pick], List.getElem_mem inside, ?_⟩
  have chosen : nextDue s = some ((c :: d :: cs)[pick], { s with picks := s.picks + 1 }) := by
    unfold nextDue
    rw [running, several, ← List.getD_eq_getElem _ c inside]
    rfl
  unfold idle
  rw [chosen]

end Due

/-- Settles O2: what is due block by block, and the choice by how many things are due. -/
theorem idlePartTakesWhatIsDue : Obligations.IdlePartTakesWhatIsDue := by
  refine ⟨reached_iff, hasReached_iff, fun s => ⟨fun c => ?_, fun empty => ?_⟩⟩
  · rw [mem_dueCommands, mem_dueRequests, mem_dueHandsets, mem_dueCars, mem_dueSwitches, mem_dueOthers]
    simp only [eq_requestCommand_iff, or_assoc]
  · rw [step_of_idle empty]
    exact ⟨idle_held, fun running => ⟨fun nothing => ⟨idle_nothing running nothing, passQuarter_now s⟩,
      fun c single => idle_single running single, fun c d cs several => idle_several running several⟩⟩

end Sys2Proof.Machine
end

section
/-!
O28 to O32. One car's record: WRITE PROFILE and what disabling does, the taking of a detection case by case, the
correction's and the estimator's arithmetic, and the ends of intents and of fixes.
-/

namespace Sys2Proof.Machine

/-- A command taken while the part is not held in reset has its effect. -/
theorem whenRunning_running {s : State} (running : s.resetHeld = false) (f : State → State) :
    whenRunning s f = .next (f s) := by
  simp [whenRunning, running]

/-- Two changes of one car are one. -/
theorem State.modifyCar_modifyCar (s : State) (c : CarNo) (f g : Car → Car) :
    (s.modifyCar c f).modifyCar c g = s.modifyCar c fun r => g (f r) := by
  unfold State.modifyCar
  rw [update_update]

/-! ### WRITE PROFILE (R21, R22) -/

/-- A profile whose fields have room in their bytes. -/
structure Profile.Encodable (p : Profile) : Prop where
  vmax : p.vmax ≤ 65535
  response : p.response ≤ 255
  length : p.length ≤ 65535

section Profiles

variable {n : Nat} {p : Profile} {s : State}

theorem writeProfile_outside_setup (race : s.race ≠ .setup) :
    writeProfile (byte n :: p.bytes) s = (s, Reply.bare .state) := if_pos race

theorem writeProfile_busy (race : s.race = .setup) (busy : s.store ≠ .idle) :
    writeProfile (byte n :: p.bytes) s = (s, Reply.bare .busy) := by
  simp only [writeProfile, Profile.bytes, bytes2, List.cons_append, List.nil_append]
  rw [if_neg (not_not_intro race), if_pos (storeBusy_eq_true.mpr busy)]
  rfl

theorem writeProfile_above (race : s.race = .setup) (idle : s.store = .idle) (hn : n ≤ 255) (above : 12 ≤ n) :
    writeProfile (byte n :: p.bytes) s = (s, Reply.bare .range) := by
  simp only [writeProfile, Profile.bytes, bytes2, List.cons_append, List.nil_append]
  rw [if_neg (not_not_intro race), storeBusy_eq_false.mpr idle, numbered_none hn above]
  rfl

theorem writeProfile_inTable (k : p.Encodable) (race : s.race = .setup) (idle : s.store = .idle) (h : n < 12) :
    writeProfile (byte n :: p.bytes) s =
      if p.inRange then (storeProfile ⟨n, h⟩ p s, Reply.bare .ok) else (s, Reply.bare .range) := by
  simp only [writeProfile, Profile.bytes, bytes2, List.cons_append, List.nil_append, isYes_yesNo,
    number2_bytes k.vmax, byte_toNat k.response, number2_bytes k.length,
    numbered_byte (show 12 ≤ 256 by decide) h]
  rw [if_neg (not_not_intro race), storeBusy_eq_false.mpr idle]
  rfl

theorem exec_writeProfile {t : State} {st : Status} (h : FrameEnded .console 0x30 (byte n :: p.bytes) s)
    (answer : writeProfile (byte n :: p.bytes) s = (t, Reply.bare st)) :
    exec (.writeProfile .console) s = .next (withReply .console st.code [] t) := by
  refine exec_owner (x := .writeProfile) h rfl rfl ?_ rfl answer
  show (reservedYesNo (some (yesNo p.enabled)) || reservedYesNo (some (yesNo p.pace))) = false
  rw [reservedYesNo_yesNo, reservedYesNo_yesNo]
  rfl

variable {c : CarNo}

/-- A write that disables no car replaces the profile and does nothing else (R21). -/
theorem storeProfile_kept (kept : ¬(s.cars[c].profile.enabled = true ∧ p.enabled = false)) :
    storeProfile c p s = s.modifyCar c fun r => { r with profile := p } := by
  have enabled : ¬(s.cars[c].profile.enabled && !p.enabled) = true := by simpa using kept
  exact if_neg enabled

/-- A write that disables the car: R22's steps on the car with its new profile. -/
theorem storeProfile_disables (before : s.cars[c].profile.enabled = true) (after : p.enabled = false) :
    storeProfile c p s =
      (dissolveDisabled c (s.modifyCar c fun r => { r with profile := p })).modifyCar c Car.disable := by
  have disabled : (s.cars[c].profile.enabled && !p.enabled) = true := by rw [before, after]; rfl
  exact if_pos disabled

theorem dissolveDisabled_unbound (unbound : s.cars[c].binding = none) : dissolveDisabled c s = s := by
  unfold dissolveDisabled
  rw [unbound]

theorem dissolveDisabled_bound {h : HandsetNo} (bound : s.cars[c].binding = some h) :
    dissolveDisabled c s = dissolve h c .disabled s := by
  unfold dissolveDisabled
  rw [bound]

/-- A change of a car after its binding is dissolved is one with the dissolving's own (R22, R68). -/
theorem dissolve_modifyCar (h : HandsetNo) (cause : UnbindCause) (f : Car → Car) :
    (dissolve h c cause s).modifyCar c f =
      raise (.unbound h (some c) cause)
        ((setPairing h .idle s).modifyCar c fun r => f { r with binding := none, intent := none }) :=
  congrArg (raise (.unbound h (some c) cause)) (State.modifyCar_modifyCar (setPairing h .idle s) c _ f)

theorem setPairing_modifyCar (h : HandsetNo) (x : PairingState) (f : Car → Car) :
    setPairing h x (s.modifyCar c f) = (setPairing h x s).modifyCar c f := rfl

theorem binding_of_storedProfile : (s.modifyCar c fun r => { r with profile := p }).cars[c].binding =
    s.cars[c].binding := by
  rw [State.modifyCar_cars, update_same]

end Profiles

/-- Settles O28: R21's tests in their order, and then R22 by the enabled fields and the binding. -/
theorem profileWritten : Obligations.ProfileWritten := by
  intro n p s hn vmax response length frame
  have k : p.Encodable := ⟨vmax, response, length⟩
  refine ⟨fun race => exec_writeProfile (st := .state) frame (writeProfile_outside_setup race),
    fun race busy => exec_writeProfile (st := .busy) frame (writeProfile_busy race busy),
    fun race idle => ⟨fun outside => ?refused, fun h fits => ?accepted⟩⟩
  case refused =>
    refine exec_writeProfile (st := .range) frame ?_
    obtain above | inTable := Nat.lt_or_ge n 12 |>.symm
    · exact writeProfile_above race idle hn above
    · rw [writeProfile_inTable k race idle inTable, if_neg]
      rw [p.inRange_iff]
      omega
  case accepted =>
    have stored {t : State} (e : storeProfile ⟨n, h⟩ p s = t) :
        exec (.writeProfile .console) s = .next (withReply .console 0x00 [] t) := by
      refine exec_writeProfile (st := .ok) frame ?_
      rw [writeProfile_inTable k race idle h, if_pos fits, e]
    refine ⟨fun kept => stored (storeProfile_kept kept), fun before after => ⟨fun unbound => stored ?_,
      fun handset bound => stored ?_⟩⟩
    · rw [storeProfile_disables before after, dissolveDisabled_unbound (binding_of_storedProfile.trans unbound),
        State.modifyCar_modifyCar]
      rfl
    · rw [storeProfile_disables before after, dissolveDisabled_bound (binding_of_storedProfile.trans bound),
        dissolve_modifyCar, setPairing_modifyCar, State.modifyCar_modifyCar]
      rfl

/-! ### Taking a detection (R27 to R31) -/

theorem fixStale_iff {c : Car} {f : Fix} (e : c.fix = some f) (clock : Time) :
    c.fixStale clock = true ↔ c.stale = true ∨ 50000 < (clock - f.time).toNat := by
  simp only [Car.fixStale, e, Bool.or_eq_true, decide_eq_true_eq]
  exact Iff.rfl

section Detections

variable {m : TrackMap} {clock t : Time} {c : Car} {q : Sensor} {p : Fix}

theorem detectionCase_noFix (e : c.fix = none) : detectionCase m clock c q t = .refix .noFix := by
  simp [detectionCase, e]

theorem detectionCase_sameSensor (e : c.fix = some p) (same : p.sensor = q) :
    detectionCase m clock c q t = .sameSensor := by
  simp [detectionCase, e, same]

theorem detectionCase_stale (e : c.fix = some p) (other : p.sensor ≠ q) (stale : c.fixStale clock = true) :
    detectionCase m clock c q t = .refix .stale := by
  simp [detectionCase, e, other, stale]

/-- With a fresh fix at another sensor, the elapsed time and then the distance decide (R27, R31). -/
theorem detectionCase_fresh (e : c.fix = some p) (other : p.sensor ≠ q) (fresh : c.fixStale clock = false) :
    detectionCase m clock c q t =
      if (t - p.time).toInt < 1 then .refix .time
      else
        match m.fixDistance p.sensor q with
        | none => .refix .unreachable
        | some d => if d ≤ 0 then .refix .distance else .corrected d (t - p.time).toInt := by
  simp only [detectionCase, e, if_neg other, fresh, Bool.false_eq_true, if_false]
  rfl

/-- A correction has a positive distance and a positive elapsed time (R27). -/
theorem detectionCase_corrected {d e : Int} (h : detectionCase m clock c q t = .corrected d e) :
    0 < d ∧ 1 ≤ e := by
  unfold detectionCase at h
  split at h
  · simp at h
  · split_ifs at h with same stale late
    split at h
    · simp at h
    · split_ifs at h with behind
      obtain ⟨rfl, rfl⟩ := DetectionCase.corrected.inj h
      omega

end Detections

section Taken

variable {k : CarNo} {q : Sensor} {t : Time} {s : State}

theorem takeDetection_sameSensor (h : detectionCase s.map s.clock s.cars[k] q t = .sameSensor) :
    takeDetection k q t s = s.modifyCar k fun c => c.setFix q t := by
  simp only [takeDetection, h]

theorem takeDetection_corrected {d e : Int} (h : detectionCase s.map s.clock s.cars[k] q t = .corrected d e) :
    takeDetection k q t s = s.modifyCar k fun c =>
      { c.setFix q t with speed := correctedSpeed c.speed (measuredSpeed d e) } := by
  simp only [takeDetection, h]

theorem takeDetection_refix {r : RefixReason} (h : detectionCase s.map s.clock s.cars[k] q t = .refix r) :
    takeDetection k q t s = raise (.refix k q r)
      (s.modifyCar k fun c => { c.setFix q t with refixes := bump 255 c.refixes }) := by
  simp only [takeDetection, h]

end Taken

/-- From the entry of a switch to its own thrown exit the distance needs no walk (R29). -/
theorem fixDistance_own_exit (m : TrackMap) (j : SwitchNo) :
    m.fixDistance { node := switchNode j, kind := .entry } { node := switchNode j, kind := .exitThrown } =
      some (m.approach j + (m.switch j).exitThrownOffset) := by
  simp [TrackMap.fixDistance, nodeSwitch_switchNode]

/-- Between other sensors the distance is the walk's with the new sensor's offset (R29). -/
theorem fixDistance_walk (m : TrackMap) {p q : Sensor}
    (other : ¬(q.kind = .exitThrown ∧ p.kind = .entry ∧ p.node = q.node)) :
    m.fixDistance p q = (m.walkFrom p (m.sensorPlace q).1).map (· + ((m.sensorPlace q).2 : Int)) := by
  unfold TrackMap.fixDistance
  split
  · exact if_neg other
  · rfl

theorem resolve_eq_sensorPlace {m : TrackMap} {q : Sensor} {place : Nat × Nat} (h : m.resolve q = some place) :
    place = m.sensorPlace q := by
  unfold TrackMap.resolve at h
  split at h
  · exact (Option.some.inj h).symm
  · simp at h

/-- Settles O29: each case of R27 in turn, and R29's distance by whether the two sensors are one switch's. -/
theorem detectionsTakenByCase : Obligations.DetectionsTakenByCase := by
  refine ⟨fun k q t s => ?cases, fun m p q => ⟨?own, fun other place resolved => ?walk⟩⟩
  case cases =>
    intro fixed refixed
    have refix {r : RefixReason} (h : detectionCase s.map s.clock s.cars[k] q t = .refix r) :
        takeDetection k q t s = refixed r := takeDetection_refix h
    refine ⟨fun absent => refix (detectionCase_noFix absent), fun p present => ⟨fun same => ?_, fun other =>
      ⟨fun old => ?_, fun unmarked young => ?_⟩⟩⟩
    · exact takeDetection_sameSensor (detectionCase_sameSensor present same)
    · exact refix (detectionCase_stale present other ((fixStale_iff present _).mpr old))
    · have fresh : s.cars[k].fixStale s.clock = false := by
        rw [Bool.eq_false_iff, Ne, fixStale_iff present, unmarked]
        simpa using young
      have decided := detectionCase_fresh (m := s.map) (t := t) present other fresh
      refine ⟨fun early => refix (decided.trans (if_pos (by omega))), fun positive => ?_⟩
      rw [if_neg (by omega)] at decided
      refine ⟨fun unreachable => refix ?_, fun d found => ⟨fun behind => refix ?_, fun ahead => ?_⟩⟩
      · rw [decided, unreachable]
      · rw [decided, found]
        exact if_pos behind
      · refine takeDetection_corrected (decided.trans ?_)
        rw [found]
        exact if_neg (by omega)
  case own =>
    rintro j rfl rfl
    exact fixDistance_own_exit m j
  case walk =>
    rw [fixDistance_walk m other, resolve_eq_sensorPlace resolved]

/-! ### The correction's arithmetic (R30) -/

/-- The measured speed is the quotient rounded down, or 8,000 where that is less (R30 step 1). -/
theorem measuredSpeed_spec {d e : Int} (hd : 0 < d) (he : 1 ≤ e) :
    measuredSpeed d e ≤ 8000 ∧ (measuredSpeed d e : Int) * e ≤ d * 10000 ∧
      (measuredSpeed d e = 8000 ∨ d * 10000 < ((measuredSpeed d e : Int) + 1) * e) := by
  have positive : 0 ≤ d * 10000 / e := Int.ediv_nonneg (by omega) (by omega)
  have below : d * 10000 / e * e ≤ d * 10000 := Int.ediv_mul_le _ (by omega)
  have above : d * 10000 < (d * 10000 / e + 1) * e := Int.lt_ediv_add_one_mul_self _ (by omega)
  unfold measuredSpeed
  generalize d * 10000 / e = v at *
  obtain small | large := le_or_gt v 8000
  · rw [min_eq_left small, Int.toNat_of_nonneg positive]
    exact ⟨by omega, below, .inr above⟩
  · rw [min_eq_right large.le]
    exact ⟨le_refl 8000, (mul_le_mul_of_nonneg_right large.le (by omega)).trans below, .inl rfl⟩

/-- With both speeds within 8,000 the weighted estimate is too, so R30's last limit never acts. -/
theorem correctedSpeed_eq {old measured : Nat} (ho : old ≤ 8000) (hm : measured ≤ 8000) :
    correctedSpeed old measured = (old + 3 * measured + 2) / 4 :=
  min_eq_left (by omega)

/-- Settles O30: a correction's distance and time are positive, so R30's quotient and its rounding apply. -/
theorem correctionArithmetic : Obligations.CorrectionArithmetic := by
  intro k q t s d e speed corrected
  obtain ⟨hd, he⟩ := detectionCase_corrected corrected
  obtain ⟨limit, rounded⟩ := measuredSpeed_spec hd he
  have record : (takeDetection k q t s).cars[k] =
      { s.cars[k].setFix q t with speed := correctedSpeed s.cars[k].speed (measuredSpeed d e) } := by
    rw [takeDetection_corrected corrected]
    exact update_same _ _ _
  refine ⟨measuredSpeed d e, ⟨limit, rounded⟩, ?_, ?_, ?_, ?_⟩
  · rw [record]
    exact correctedSpeed_eq speed limit
  · rw [record]
    exact correctedSpeed_le _ _
  · rw [record]
    rfl
  · rw [takeDetection_corrected corrected]
    rfl

/-! ### The estimator's step (R34) -/

/-- The move of one estimator step from difference `delta`: `r` sixteenths of it truncated toward zero, and at
least one toward the target. -/
def estimatorMove (delta : Int) (r : Nat) : Int :=
  if (delta * r).tdiv 16 = 0 then delta.sign else (delta * r).tdiv 16

theorem estimate_eq (vmax r step v : Nat) :
    estimate vmax r step v = ((v : Int) + estimatorMove ((targetSpeed vmax step : Int) - v) r).toNat := rfl

/-- A rising move lies between one and the whole difference. -/
theorem estimatorMove_rising {delta : Int} {r : Nat} (hr : r ≤ 16) (rising : 0 < delta) :
    0 < estimatorMove delta r ∧ estimatorMove delta r ≤ delta := by
  have product : 0 ≤ delta * r := mul_nonneg rising.le (by omega)
  have share : (delta * r).tdiv 16 ≤ delta := by
    rw [Int.tdiv_eq_ediv_of_nonneg product]
    exact Int.ediv_le_of_le_mul (by decide) (mul_le_mul_of_nonneg_left (by omega) rising.le)
  have forward : 0 ≤ (delta * r).tdiv 16 := Int.tdiv_nonneg product (by decide)
  unfold estimatorMove
  rw [Int.sign_eq_one_of_pos rising]
  split <;> omega

/-- A falling move is the rising one mirrored. -/
theorem estimatorMove_neg (delta : Int) (r : Nat) : estimatorMove (-delta) r = -estimatorMove delta r := by
  unfold estimatorMove
  rw [Int.neg_mul, Int.neg_tdiv, Int.sign_neg]
  split_ifs <;> omega

theorem estimatorMove_zero (r : Nat) : estimatorMove 0 r = 0 := by simp [estimatorMove]

/-- With all sixteen sixteenths the move is the whole difference. -/
theorem estimatorMove_full (delta : Int) : estimatorMove delta 16 = delta := by
  have whole : (delta * (16 : Nat)).tdiv 16 = delta := Int.mul_tdiv_cancel _ (by decide)
  unfold estimatorMove
  rw [whole]
  split
  · next zero => rw [zero]; rfl
  · rfl

/-- R34's words for the move: the truncated share, replaced where it is 0 by one toward the target. -/
theorem estimatorMove_stated (delta : Int) (r : Nat) :
    estimatorMove delta r =
      if (delta * r).tdiv 16 = 0 ∧ delta ≠ 0 then (if 0 < delta then 1 else -1) else (delta * r).tdiv 16 := by
  unfold estimatorMove
  obtain falling | rfl | rising := lt_trichotomy delta 0
  · rw [Int.sign_eq_neg_one_of_neg falling]
    simp [falling.ne, falling.not_gt]
  · simp
  · rw [Int.sign_eq_one_of_pos rising]
    simp [rising.ne', rising]

/-- A step moves toward the target and never past it (R34). -/
theorem estimatorMove_between {delta : Int} {r : Nat} (hr : r ≤ 16) :
    min 0 delta ≤ estimatorMove delta r ∧ estimatorMove delta r ≤ max 0 delta := by
  obtain falling | rfl | rising := lt_trichotomy delta 0
  · have mirrored := estimatorMove_rising hr (show 0 < -delta by omega)
    rw [estimatorMove_neg] at mirrored
    omega
  · simp [estimatorMove_zero]
  · have moved := estimatorMove_rising hr rising
    omega

/-- Settles O31: the step adds R34's move, which lies between nothing and the whole difference. -/
theorem estimatorStep : Obligations.EstimatorStep := by
  intro vmax r step v hvmax hr1 hr hstep hv target delta adj
  have between := estimatorMove_between (delta := delta) hr
  have settles : target ≤ vmax := targetSpeed_le hstep
  have difference : delta = (target : Int) - v := rfl
  have moved : (estimate vmax r step v : Int) = v + estimatorMove delta r := by
    have forward : 0 ≤ (v : Int) + estimatorMove delta r := by omega
    rw [estimate_eq]
    exact Int.toNat_of_nonneg forward
  refine ⟨moved.trans (congrArg _ (estimatorMove_stated delta r)), by omega, by omega, fun full => ?_,
    fun arrived => ?_, fun below => by omega, ?_, ?_⟩
  · subst full
    rw [estimatorMove_full] at moved
    omega
  · have nothing : delta = 0 := by omega
    rw [nothing, estimatorMove_zero] at moved
    omega
  · calc vmax * step ≤ 8000 * 63 := Nat.mul_le_mul hvmax hstep
      _ = 504000 := by decide
  · have bounded : delta.natAbs ≤ 8000 := by omega
    calc (delta * r).natAbs = delta.natAbs * r := Int.natAbs_mul _ _
      _ ≤ 8000 * 16 := Nat.mul_le_mul bounded hr
      _ = 128000 := by decide

/-! ### Intents and ages (R26, R36, R37) -/

theorem armRequest_taken {h : HandsetNo} {c : CarNo} {s : State} (race : s.race = .run)
    (bound : s.cars[c].binding = some h) :
    armRequest h c s = s.modifyCar c fun r =>
      { r with intent := some (later s.clock (s.limits.intentHold * 100)) } := if_pos ⟨race, bound⟩

theorem armRequest_discarded {h : HandsetNo} {c : CarNo} {s : State}
    (other : s.race ≠ .run ∨ s.cars[c].binding ≠ some h) : armRequest h c s = s :=
  if_neg fun ⟨race, bound⟩ => other.elim (· race) (· bound)

section Expiries

variable {c : CarNo} {s : State}

theorem exec_intentExpiry (running : s.resetHeld = false) : exec (.intentExpiry c) s =
    .next (if due s.clock s.cars[c].intent then s.modifyCar c fun r => { r with intent := none } else s) :=
  whenRunning_running running _

theorem exec_ageExpiry (running : s.resetHeld = false) : exec (.ageExpiry c) s =
    .next (if due s.clock s.cars[c].ageExpiry then
      s.modifyCar c fun r => { r with ageExpiry := none, stale := true } else s) :=
  whenRunning_running running _

end Expiries

/-- Settles O32: the arm request by its test, and each expiry by whether it is pending and reached. -/
theorem intentsAndAges : Obligations.IntentsAndAges := by
  intro c s
  refine ⟨fun h => ⟨fun race bound => armRequest_taken race bound, armRequest_discarded⟩, fun running =>
    ⟨fun idle => ?_, fun t armed => ⟨fun come => ?_, fun early => ?_⟩, fun idle => ?_,
      fun t pending => ⟨fun come => ?_, fun early => ?_⟩⟩⟩
  · rw [exec_intentExpiry running, idle]
    rfl
  · rw [exec_intentExpiry running, armed]
    exact congrArg _ (if_pos come)
  · rw [exec_intentExpiry running, armed]
    exact congrArg _ (if_neg (by simpa [due] using early))
  · rw [exec_ageExpiry running, idle]
    rfl
  · rw [exec_ageExpiry running, pending]
    exact congrArg _ (if_pos come)
  · rw [exec_ageExpiry running, pending]
    exact congrArg _ (if_neg (by simpa [due] using early))

end Sys2Proof.Machine
end

section
/-!
O58. A save confirmed to its end leaves the image in the memory, by induction on the contents writes; and a load
of that image passes R200's checks and is applied table by table: every used field that changes moves its own
switch and node alone, so the moves in ascending number come to one change of each table.
-/

namespace Sys2Proof.Machine

/-! ### A save confirmed to its end (R199) -/

theorem runCommands_next {i : Instr} {is : List Instr} {s t : State} (e : exec i s = .next t) :
    runCommands (i :: is) s = runCommands is t := by
  simp [runCommands, e]

theorem exec_saveWriteConfirm {s : State} {p : SaveProgress} (running : s.resetHeld = false)
    (saving : s.store = .saving p) : exec .saveWriteConfirm s = .next (confirmWrite p s) := by
  show execSaveWriteConfirm s = _
  unfold execSaveWriteConfirm
  rw [whenRunning_running running, saving]

/-- The state that a save leaves when its last write is confirmed. -/
def savedState (s : State) : State :=
  raise (.storeDone .save (nextGeneration s.generation))
    { s with store := .idle, memory := imageOf s, generation := nextGeneration s.generation }

/-- From the contents stage with `n` further writes, `n + 2` confirmations end the save. -/
theorem runCommands_contents (n : Nat) (by_ : Time) (s : State) (running : s.resetHeld = false)
    (saving : s.store = .saving { stage := .contents, left := n, confirmBy := by_ }) :
    runCommands (List.replicate (n + 2) .saveWriteConfirm) s = some (savedState s) := by
  induction n generalizing s by_ with
  | zero =>
    have last := exec_saveWriteConfirm (s := awaitConfirm .setMarker 0 (writeContents 0 s)) running rfl
    calc runCommands [.saveWriteConfirm, .saveWriteConfirm] s
      _ = runCommands [.saveWriteConfirm] (awaitConfirm .setMarker 0 (writeContents 0 s)) :=
        runCommands_next (exec_saveWriteConfirm running saving)
      _ = runCommands [] (finishSave (awaitConfirm .setMarker 0 (writeContents 0 s))) :=
        runCommands_next last
      _ = some (savedState s) := rfl
  | succ n ih =>
    calc runCommands (.saveWriteConfirm :: List.replicate (n + 2) .saveWriteConfirm) s
      _ = runCommands (List.replicate (n + 2) .saveWriteConfirm)
          (awaitConfirm .contents n (writeContents (n + 1) s)) :=
        runCommands_next (exec_saveWriteConfirm running saving)
      _ = some (savedState (awaitConfirm .contents n (writeContents (n + 1) s))) := ih _ _ running rfl
      _ = some (savedState s) := rfl

/-- From the first write on, a save takes the contents writes and three confirmations more. -/
theorem runCommands_save {left : Nat} {by_ : Time} {s : State} (running : s.resetHeld = false)
    (saving : s.store = .saving { stage := .clearMarker, left := left, confirmBy := by_ }) :
    runCommands (List.replicate (Config.imageWrites + 3) .saveWriteConfirm) s = some (savedState s) :=
  calc runCommands (.saveWriteConfirm :: List.replicate (Config.imageWrites + 2) .saveWriteConfirm) s
    _ = runCommands (List.replicate (Config.imageWrites + 2) .saveWriteConfirm)
        (awaitConfirm .contents Config.imageWrites s) := runCommands_next (exec_saveWriteConfirm running saving)
    _ = some (savedState (awaitConfirm .contents Config.imageWrites s)) := runCommands_contents _ _ _ running rfl
    _ = some (savedState s) := rfl

/-! ### The saved image read back (R198, R200) -/

section Image

variable {s : State}

theorem imageOf_sum (s : State) : (imageOf s).sum = (imageOf s).additiveSum := rfl

theorem imageOf_profile (s : State) (c : CarNo) : (imageOf s).profiles[c] = s.cars[c].profile :=
  updateAll_get s.cars (fun _ c => c.profile) c

theorem imageOf_bindingNumber (s : State) (c : CarNo) :
    (imageOf s).bindings[c] = s.cars[c].binding.map Fin.val :=
  updateAll_get s.cars (fun _ c => c.binding.map Fin.val) c

theorem imageOf_calibration (s : State) (h : HandsetNo) :
    (imageOf s).calibrations[h] = s.handsets[h].calibration :=
  updateAll_get s.handsets (fun _ h => h.calibration) h

/-- The image's binding of a car is the car's. -/
theorem imageOf_binding (s : State) (c : CarNo) : (imageOf s).binding c = s.cars[c].binding := by
  unfold Image.binding
  rw [imageOf_bindingNumber]
  cases s.cars[c].binding with
  | none => rfl
  | some h => exact dif_pos h.isLt

/-- A part whose settings are in range saves an image in range. -/
theorem imageOf_inRange (h : RangeLaw s) : (imageOf s).inRange = true := by
  refine (Image.inRange_iff _).mpr ⟨h.map, fun c => ?_, fun c => ?_, fun n => ?_, h.scan, h.trim, h.limits⟩
  · rw [imageOf_profile]
    exact h.profiles c
  · rw [imageOf_bindingNumber]
    cases s.cars[c].binding with
    | none => rfl
    | some n => simpa using Nat.le_of_lt_succ n.isLt
  · rw [imageOf_calibration]
    exact h.calibrations n

/-- No handset is bound to two cars (R62). -/
theorem PairingLaw.one_car (h : PairingLaw s) {n : HandsetNo} {c d : CarNo} (hc : s.cars[c].binding = some n)
    (hd : s.cars[d].binding = some n) : c = d :=
  PairingState.bound.inj (((h.agree n c).mpr hc).symm.trans ((h.agree n d).mpr hd))

theorem imageOf_bindingsSound (h : PairingLaw s) : (imageOf s).bindingsSound = true := by
  unfold Image.bindingsSound
  refine List.all_eq_true.mpr fun c _ => ?_
  rw [imageOf_bindingNumber, imageOf_profile]
  cases bound : s.cars[c].binding with
  | none => rfl
  | some n =>
    have enabled : s.cars[c].profile.enabled = true := h.enabled c (by rw [bound]; rfl)
    have alone (d : CarNo) : (d == c || (imageOf s).bindings[d] != some n.val) = true := by
      by_cases same : d = c
      · simp [same]
      · rw [imageOf_bindingNumber]
        have other : s.cars[d].binding.map Fin.val ≠ some n.val := fun e => by
          obtain ⟨m, bound', number⟩ := Option.map_eq_some_iff.mp e
          obtain rfl := Fin.ext number
          exact same (h.one_car bound' bound)
        exact Bool.or_eq_true_iff.mpr (.inr (bne_iff_ne.mpr other))
    simp only [Option.map_some, enabled, Bool.true_and]
    exact List.all_eq_true.mpr fun d _ => alone d

/-- The car that the image binds a handset to is the one that the handset's pairing state names. -/
theorem imageOf_boundCar (h : PairingLaw s) (n : HandsetNo) :
    (imageOf s).boundCar n = s.handsets[n].pairing.car := by
  have holds (c : CarNo) : ((imageOf s).binding c == some n) = true ↔ s.handsets[n].pairing = .bound c := by
    rw [imageOf_binding, beq_iff_eq, h.agree]
  cases found : (imageOf s).boundCar n with
  | some d =>
    have bound := (holds d).mp (List.find?_some (p := fun c => (imageOf s).binding c == some n) found)
    rw [bound]
    rfl
  | none =>
    have nobody (c : CarNo) : s.handsets[n].pairing ≠ .bound c := fun bound =>
      List.find?_eq_none.mp found c (mem_carNos c) ((holds c).mpr bound)
    cases paired : s.handsets[n].pairing with
    | bound c => exact absurd paired (nobody c)
    | idle | seeking => rfl

/-- A saved image passes every check of a load in SETUP (R200). -/
theorem imageOf_loadFault (r : RangeLaw s) (p : PairingLaw s) : loadFault (imageOf s) .setup = none :=
  (loadFault_eq_none _ _).mpr ⟨rfl, imageOf_sum s, imageOf_inRange r, imageOf_bindingsSound p, rfl⟩

end Image

/-! ### One used field that changes (R130, R133) -/

/-- The node of address `a` enters the polled set when map `m` replaces `old`. -/
def enters (old m : TrackMap) (a : NodeNo) : Bool := !old.polled a && m.polled a

/-- The node of address `a` leaves the polled set when map `m` replaces `old`. -/
def leaves (old m : TrackMap) (a : NodeNo) : Bool := old.polled a && !m.polled a

/-- A switch's runtime record after map `m` has replaced `old` at time `clock`. -/
def followedSwitch (old m : TrackMap) (clock : Time) (j : SwitchNo) (r : SwitchRun) : SwitchRun :=
  if enters old m (switchNode j) then
    { r with state := .returning, commanded := .straight, confirmed := .unknown
             deadline := some (later clock ((m.switch j).actuation + 200)) }
  else if leaves old m (switchNode j) then
    { r with state := .straight, commanded := .straight, confirmed := .unknown, deadline := none }
  else r

/-- A node's record after map `m` has replaced `old`. -/
def followedNode (old m : TrackMap) (a : NodeNo) (r : NodeRecord) : NodeRecord :=
  if enters old m a then NodeRecord.entered
  else if leaves old m a then { r with state := .unpolled }
  else r

/-- The urgent list after switch `j` has followed. -/
def followedUrgent (old m : TrackMap) (l : List SwitchNo) (j : SwitchNo) : List SwitchNo :=
  if enters old m (switchNode j) then (if j ∈ l then l else l ++ [j])
  else if leaves old m (switchNode j) then l.filter (· != j)
  else l

/-- The exchange in flight after node `a` has followed. -/
def followedExchange (old m : TrackMap) (x : Option Exchange) (a : NodeNo) : Option Exchange :=
  if leaves old m a then x.map (Exchange.leaving · a) else x

theorem enters_of_leaves {old m : TrackMap} {a : NodeNo} (goes : leaves old m a = true) :
    enters old m a = false := by
  obtain ⟨before, -⟩ := Bool.and_eq_true_iff.mp goes
  simp [enters, before]

theorem update_self {α : Type} {n : Nat} (v : Vector α n) (i : Fin n) : update v i (fun x => x) = v := by
  simp [update]

section Following

variable {old m : TrackMap} {s : State}

theorem followSwitchUse_eq (hm : s.map = m) (j : SwitchNo) :
    followSwitchUse (old.switch j).used (m.switch j).used j s = { s with
      switches := update s.switches j (followedSwitch old m s.clock j)
      loop := { s.loop with
        nodes := update s.loop.nodes (switchNode j) (followedNode old m (switchNode j))
        urgent := followedUrgent old m s.loop.urgent j
        exchange := followedExchange old m s.loop.exchange (switchNode j) } } := by
  unfold followedSwitch followedNode followedUrgent followedExchange enters leaves
  rw [old.polled_switchNode, m.polled_switchNode]
  cases (old.switch j).used <;> cases used : (m.switch j).used
  · simp [followSwitchUse, update_self]
  · rw [followSwitchUse_used, switchBecomesUsed_eq, hm]
    rfl
  · rw [followSwitchUse_unused, switchBecomesUnused_eq]
    rfl
  · simp [followSwitchUse, update_self]

theorem followGateUse_eq (old m : TrackMap) (g : Fin 16) (s : State) :
    followGateUse (old.gate g.val).used (m.gate g.val).used g s = { s with
      loop := { s.loop with
        nodes := update s.loop.nodes (gateNode g) (followedNode old m (gateNode g))
        exchange := followedExchange old m s.loop.exchange (gateNode g) } } := by
  unfold followedNode followedExchange enters leaves
  rw [old.polled_gateNode, m.polled_gateNode]
  cases (old.gate g.val).used <;> cases (m.gate g.val).used
  · simp [followGateUse, update_self]
  · rfl
  · rfl
  · simp [followGateUse, update_self]

/-! ### All used fields in ascending number (R201) -/

theorem foldl_followSwitchUse (l : List SwitchNo) (hm : s.map = m) :
    l.foldl (fun s j => followSwitchUse (old.switch j).used (m.switch j).used j s) s = { s with
      switches := l.foldl (fun v j => update v j (followedSwitch old m s.clock j)) s.switches
      loop := { s.loop with
        nodes := (l.map switchNode).foldl (fun v a => update v a (followedNode old m a)) s.loop.nodes
        urgent := l.foldl (followedUrgent old m) s.loop.urgent
        exchange := (l.map switchNode).foldl (followedExchange old m) s.loop.exchange } } := by
  induction l generalizing s with
  | nil => rfl
  | cons j l ih =>
    rw [List.foldl_cons, followSwitchUse_eq hm]
    refine ih ?_
    exact hm

theorem foldl_followGateUse (l : List (Fin 16)) :
    l.foldl (fun s g => followGateUse (old.gate g.val).used (m.gate g.val).used g s) s = { s with
      loop := { s.loop with
        nodes := (l.map gateNode).foldl (fun v a => update v a (followedNode old m a)) s.loop.nodes
        exchange := (l.map gateNode).foldl (followedExchange old m) s.loop.exchange } } := by
  induction l generalizing s with
  | nil => rfl
  | cons g l ih =>
    rw [List.foldl_cons, followGateUse_eq]
    exact ih

/-- Entries changed one after another, each once, are each changed by their own function. -/
theorem foldl_update_get {α : Type} {n : Nat} (f : Fin n → α → α) (l : List (Fin n)) (once : l.Nodup)
    (v : Vector α n) (k : Fin n) :
    (l.foldl (fun v i => update v i (f i)) v)[k] = if k ∈ l then f k v[k] else v[k] := by
  induction l generalizing v with
  | nil => rfl
  | cons i l ih =>
    obtain ⟨new, once⟩ := List.nodup_cons.mp once
    rw [List.foldl_cons, ih once]
    by_cases same : k = i
    · subst same
      rw [if_neg new, if_pos List.mem_cons_self, update_same]
    · rw [update_other v (f i) same]
      simp [same]

theorem foldl_update_all {α : Type} {n : Nat} (f : Fin n → α → α) (v : Vector α n) :
    (List.finRange n).foldl (fun v i => update v i (f i)) v = updateAll v f :=
  table_ext fun k => by
    rw [foldl_update_get f _ (List.nodup_finRange n), updateAll_get, if_pos (List.mem_finRange k)]

/-- Switch nodes and then gate nodes are all the nodes. -/
theorem switchNodes_append_gateNodes : switchNos.map switchNode ++ (List.finRange 16).map gateNode = nodeNos := by
  decide

/-- The urgent list after the switches of `js` have followed: those that left are off it, and those that entered
stand behind the others in ascending number. -/
theorem foldl_followedUrgent (js : List SwitchNo) (once : js.Nodup) (l : List SwitchNo) :
    js.foldl (followedUrgent old m) l =
      l.filter (fun i => !(decide (i ∈ js) && leaves old m (switchNode i))) ++
        js.filter fun j => enters old m (switchNode j) && decide (j ∉ l) := by
  induction js generalizing l with
  | nil => simp
  | cons j js ih =>
    obtain ⟨new, once⟩ := List.nodup_cons.mp once
    have behind (i : SwitchNo) (hi : i ∈ js) : i ≠ j := fun same => new (same ▸ hi)
    rw [List.foldl_cons, ih once]
    by_cases goes : leaves old m (switchNode j) = true
    · have stays := enters_of_leaves goes
      have first : (l.filter (· != j)).filter (fun i => !(decide (i ∈ js) && leaves old m (switchNode i))) =
          l.filter fun i => !(decide (i ∈ j :: js) && leaves old m (switchNode i)) := by
        rw [List.filter_filter]
        refine List.filter_congr fun i _ => ?_
        by_cases same : i = j <;> simp [same, goes]
      have second : js.filter (fun i => enters old m (switchNode i) && decide (i ∉ l.filter (· != j))) =
          js.filter fun i => enters old m (switchNode i) && decide (i ∉ l) :=
        List.filter_congr fun i hi => by simp [behind i hi]
      simp only [followedUrgent, stays, goes, Bool.false_eq_true, if_false, if_true, first, second, List.filter_cons,
        Bool.false_and]
    · have first : l.filter (fun i => !(decide (i ∈ js) && leaves old m (switchNode i))) =
          l.filter fun i => !(decide (i ∈ j :: js) && leaves old m (switchNode i)) := by
        refine List.filter_congr fun i _ => ?_
        by_cases same : i = j <;> simp [same, goes]
      by_cases comes : enters old m (switchNode j) = true ∧ j ∉ l
      · obtain ⟨arrives, off⟩ := comes
        have second : js.filter (fun i => enters old m (switchNode i) && decide (i ∉ l ++ [j])) =
            js.filter fun i => enters old m (switchNode i) && decide (i ∉ l) :=
          List.filter_congr fun i hi => by simp [behind i hi]
        have placed : followedUrgent old m l j = l ++ [j] := by simp [followedUrgent, arrives, off]
        have kept : [j].filter (fun i => !(decide (i ∈ js) && leaves old m (switchNode i))) = [j] := by
          simp [new]
        rw [placed, second, List.filter_append, first, kept, List.filter_cons_of_pos (by simp [arrives, off]),
          List.append_assoc]
        rfl
      · have same : followedUrgent old m l j = l := by
          unfold followedUrgent
          split_ifs <;> simp_all
        rw [same, first, List.filter_cons_of_neg (by simpa using comes)]

/-- The exchange in flight is to be discarded exactly when its node is one of those that leave. -/
theorem foldl_followedExchange (l : List NodeNo) (x : Option Exchange) :
    l.foldl (followedExchange old m) x =
      x.map fun x => if x.node ∈ l ∧ leaves old m x.node = true then { x with discard := true } else x := by
  induction l generalizing x with
  | nil => simp
  | cons a l ih =>
    rw [List.foldl_cons, ih]
    cases x with
    | none => simp [followedExchange]
    | some e =>
      by_cases goes : leaves old m a = true
      · by_cases same : e.node = a <;> simp [followedExchange, Exchange.leaving, goes, same]
      · have other : leaves old m e.node = true → e.node ≠ a := by
          rintro gone rfl
          exact goes gone
        by_cases gone : leaves old m e.node = true
        · simp [followedExchange, goes, gone, other gone]
        · simp [followedExchange, goes, gone]

/-- A load's map: the tables replaced, and each switch and node changed by its own used field. -/
theorem loadMap_eq (m : TrackMap) (s : State) : loadMap m s = { s with
    map := m
    mapValid := false
    switches := updateAll s.switches (followedSwitch s.map m s.clock)
    loop := { s.loop with
      nodes := updateAll s.loop.nodes (followedNode s.map m)
      urgent := s.loop.urgent.filter (fun j => !leaves s.map m (switchNode j)) ++
        switchNos.filter fun j => enters s.map m (switchNode j) && decide (j ∉ s.loop.urgent)
      exchange := s.loop.exchange.map fun x =>
        if leaves s.map m x.node then { x with discard := true } else x } } := by
  have switches := foldl_update_all (followedSwitch s.map m s.clock) s.switches
  have nodes := foldl_update_all (followedNode s.map m) s.loop.nodes
  have urgent := foldl_followedUrgent (old := s.map) (m := m) switchNos switchNos_nodup s.loop.urgent
  have exchange := foldl_followedExchange (old := s.map) (m := m) nodeNos s.loop.exchange
  simp only [mem_switchNos, decide_true, Bool.true_and] at urgent
  simp only [mem_nodeNos, true_and] at exchange
  unfold loadMap
  dsimp only
  rw [foldl_followSwitchUse (s := { s with map := m, mapValid := false }) switchNos rfl, foldl_followGateUse]
  dsimp only
  rw [← List.foldl_append, ← List.foldl_append, switchNodes_append_gateNodes, urgent, exchange]
  unfold switchNos nodeNos
  rw [switches, nodes]

end Following

/-! ### A load applied in every block (R201) -/

/-- A load is one change of each block's tables, and then the loop's start. -/
theorem applyLoad_eq (i : Image) (u : State) : applyLoad i u =
    wakeLoop (raise (.storeDone .load i.generation) { u with
      map := i.map, mapValid := false, seeks := [], store := .idle, limits := i.limits, generation := i.generation
      cars := updateAll u.cars fun c r => r.loaded i.profiles[c] (i.binding c)
      handsets := updateAll u.handsets fun h r => r.loaded i.calibrations[h] (i.boundCar h)
      scanner := (restartScanner i.scanSet i.scanInterval u).scanner
      frames := { u.frames with trim := i.trim }
      switches := (loadMap i.map u).switches
      loop := (loadMap i.map u).loop }) := by
  unfold applyLoad
  rw [loadMap_eq]
  rfl

theorem exec_loadComplete {u : State} (running : u.resetHeld = false) (loading : u.store = .loading)
    (passes : loadFault u.memory u.race = none) : exec .loadComplete u = .next (applyLoad u.memory u) := by
  show execLoadComplete u = _
  unfold execLoadComplete
  rw [whenRunning_running running, loading]
  unfold completeLoad
  rw [passes]

/-- Settles O58: the save by its confirmations; the load by its checks, and then block by block. -/
theorem saveThenLoadRestores : Obligations.SaveThenLoadRestores := by
  intro s ranges pairs generation
  refine ⟨fun left by_ running saving => ⟨_, runCommands_save running saving, rfl⟩,
    fun u running memory loading setup => ?_⟩
  intro enters leaves t
  have passes : loadFault u.memory u.race = none := by
    rw [memory, setup]
    exact imageOf_loadFault ranges pairs
  rw [exec_loadComplete running loading passes, memory, applyLoad_eq, loadMap_eq]
  have cars : (updateAll u.cars fun c r => r.loaded (imageOf s).profiles[c] ((imageOf s).binding c)) = t.cars := by
    simp only [imageOf_profile, imageOf_binding]
    rfl
  have handsets : (updateAll u.handsets fun h r =>
      r.loaded (imageOf s).calibrations[h] ((imageOf s).boundCar h)) = t.handsets := by
    refine congrArg Vector.ofFn (funext fun h => ?_)
    dsimp only
    rw [imageOf_calibration, imageOf_boundCar pairs]
    cases s.handsets[h].pairing <;> rfl
  rw [cars, handsets]
  exact congrArg _ (wakeLoop_eq t)

end Sys2Proof.Machine
end

section
/-!
O35 and O36. One handset's record: the derivation of its step, the scanner's rounds, and what a round result does
to it. A change of one handset's record is brought to one form, `State.setHandset`, in which the stages of R54 are
read one after another.
-/

namespace Sys2Proof.Machine

/-! ### One handset's record replaced -/

/-- The state with one handset's record replaced: every change of the record comes to this. -/
def State.setHandset (s : State) (h : HandsetNo) (x : Handset) : State :=
  { s with handsets := s.handsets.set h x }

section SetHandset

variable (s : State) (h : HandsetNo) (x y : Handset)

theorem State.modifyHandset_eq (f : Handset → Handset) : s.modifyHandset h f = s.setHandset h (f s.handsets[h]) :=
  rfl

theorem State.setHandset_get : (s.setHandset h x).handsets[h] = x := by
  simp [State.setHandset]

theorem State.setHandset_setHandset : (s.setHandset h x).setHandset h y = s.setHandset h y := by
  simp [State.setHandset]

theorem State.modifyHandset_setHandset (f : Handset → Handset) :
    (s.setHandset h x).modifyHandset h f = s.setHandset h (f x) := by
  rw [State.modifyHandset_eq, State.setHandset_get, State.setHandset_setHandset]

/-- Raising an event and replacing a record do not meet. -/
theorem raise_setHandset (e : Event) : (raise e s).setHandset h x = raise e (s.setHandset h x) := rfl

/-- Nor do an arm request, which reads and writes car records, and replacing a handset's record. -/
theorem armRequest_setHandset (n : HandsetNo) (c : CarNo) :
    (armRequest n c s).setHandset h x = armRequest n c (s.setHandset h x) := by
  unfold armRequest
  split
  · next taken => exact (if_pos taken).symm
  · next discarded => exact (if_neg discarded).symm

end SetHandset

/-! ### The derivation of a step (R53) -/

section Derivation

variable {x full deadband : Int}

theorem travelStep_within (within : x ≤ deadband) : travelStep x full deadband = 0 := if_pos within

theorem travelStep_beyond (out : deadband < x) (beyond : full ≤ x) : travelStep x full deadband = 63 := by
  unfold travelStep
  rw [if_neg (by omega), if_pos beyond]

/-- Between the deadband and the full point the step is a quotient of the travel `a` beyond the deadband by the
whole travel `n`, and below 63. -/
theorem travelStep_between {a n : Nat} (travel : x - deadband = a) (whole : full - deadband = n) (out : 0 < a)
    (short : a < n) : travelStep x full deadband = a * 63 / n ∧ travelStep x full deadband ≤ 62 := by
  have quotient : travelStep x full deadband = a * 63 / n := by
    unfold travelStep
    rw [if_neg (by omega), if_neg (by omega), travel, whole]
    exact Int.toNat_natCast _
  have below : a * 63 / n < 63 := Nat.div_lt_of_lt_mul (by omega)
  exact ⟨quotient, by omega⟩

end Derivation

/-- Settles O35: forward and mirrored, by where the input's travel lies. -/
theorem stepDerivation : Obligations.StepDerivation := by
  intro z f b x k
  refine ⟨deriveStep_le k x, fun forward => ?_, fun reversed => ?_⟩
  · have derived : deriveStep k x = travelStep (x - z) (f - z) b := if_pos forward
    rw [derived]
    exact ⟨fun within => travelStep_within (by omega), fun out beyond => travelStep_beyond (by omega) (by omega),
      fun out short => travelStep_between (by omega) (by omega) (by omega) (by omega)⟩
  · have derived : deriveStep k x = travelStep (z - x) (z - f) b := if_neg reversed.not_gt
    rw [derived]
    exact ⟨fun within => travelStep_within (by omega), fun out beyond => travelStep_beyond (by omega) (by omega),
      fun out short => travelStep_between (by omega) (by omega) (by omega) (by omega)⟩

/-! ### The button's level (R54, R56, R58) -/

section Button

variable {h : HandsetNo} {x : Handset} {s : State}

/-- A pressed button's record: the hold timer starts when the step is 0 (R56). -/
def Handset.pressed (x : Handset) (now : Time) : Handset :=
  { x with button := true, holdTimer := if x.step = 0 then some now else x.holdTimer }

/-- A released button's record: the hold timer stops without expiring (R56). -/
def Handset.released (x : Handset) : Handset := { x with button := false, holdTimer := none }

theorem takeButton_level {level : Bool} (same : x.button = level) :
    takeButton h level (s.setHandset h x) = s.setHandset h x := by
  unfold takeButton
  rw [State.setHandset_get]
  exact if_pos same.symm

theorem takeButton_release (down : x.button = true) :
    takeButton h false (s.setHandset h x) = s.setHandset h x.released := by
  unfold takeButton
  rw [State.setHandset_get, if_neg (by simp [down]), if_neg (by decide), State.modifyHandset_setHandset]
  rfl

theorem takeButton_press_bound {c : CarNo} (up : x.button = false) (bound : x.pairing = .bound c) :
    takeButton h true (s.setHandset h x) = armRequest h c (s.setHandset h (x.pressed s.clock)) := by
  unfold takeButton
  rw [State.setHandset_get, if_neg (by simp [up]), if_pos rfl, State.modifyHandset_setHandset]
  dsimp only
  split
  · next d e => cases bound.symm.trans e; rfl
  · next e => cases bound.symm.trans e
  · next e => cases bound.symm.trans e

theorem takeButton_press_unbound (up : x.button = false) (unbound : x.pairing.car = none) :
    takeButton h true (s.setHandset h x) = s.setHandset h (x.pressed s.clock) := by
  unfold takeButton
  rw [State.setHandset_get, if_neg (by simp [up]), if_pos rfl, State.modifyHandset_setHandset]
  dsimp only
  split
  · next d e => rw [e] at unbound; contradiction
  · rfl
  · rfl

/-! ### The wired button's debounce (R48) -/

/-- A sample that moves the level by R48: it repeats the one before it and differs from the level. -/
theorem debounceButton_repeated {sample : Bool} (repeated : x.prevSample = some sample) :
    debounceButton h sample (s.setHandset h x) =
      (takeButton h sample (s.setHandset h x)).modifyHandset h fun r => { r with prevSample := some sample } := by
  unfold debounceButton
  rw [State.setHandset_get, if_pos repeated]

/-- The record after a sample that moves no level (R48). -/
def Handset.sampled (x : Handset) (sample : Bool) : Handset := { x with prevSample := some sample }

theorem debounceButton_level {sample : Bool} (still : x.prevSample ≠ some sample ∨ x.button = sample) :
    debounceButton h sample (s.setHandset h x) = s.setHandset h (x.sampled sample) := by
  by_cases repeated : x.prevSample = some sample
  · have same : x.button = sample := still.resolve_left (not_not_intro repeated)
    rw [debounceButton_repeated repeated, takeButton_level same, State.modifyHandset_setHandset]
    rfl
  · unfold debounceButton
    rw [State.setHandset_get, if_neg repeated, State.modifyHandset_setHandset]
    rfl

theorem debounceButton_release (repeated : x.prevSample = some false) (down : x.button = true) :
    debounceButton h false (s.setHandset h x) = s.setHandset h (x.sampled false).released := by
  rw [debounceButton_repeated repeated, takeButton_release down, State.modifyHandset_setHandset]
  rfl

theorem armRequest_handsets (c : CarNo) : (armRequest h c s).handsets = s.handsets := by
  rw [armRequest_footprint]

theorem debounceButton_press_bound {c : CarNo} (repeated : x.prevSample = some true) (up : x.button = false)
    (bound : x.pairing = .bound c) : debounceButton h true (s.setHandset h x) =
      armRequest h c (s.setHandset h ((x.sampled true).pressed s.clock)) := by
  rw [debounceButton_repeated repeated, takeButton_press_bound up bound, State.modifyHandset_eq,
    armRequest_handsets, State.setHandset_get, armRequest_setHandset, State.setHandset_setHandset]
  rfl

theorem debounceButton_press_unbound (repeated : x.prevSample = some true) (up : x.button = false)
    (unbound : x.pairing.car = none) : debounceButton h true (s.setHandset h x) =
      s.setHandset h ((x.sampled true).pressed s.clock) := by
  rw [debounceButton_repeated repeated, takeButton_press_unbound up unbound, State.modifyHandset_setHandset]
  rfl

end Button

/-! ### Rounds of the wired scanner (R43, R44) -/

section Rounds

variable {s : State}

theorem exec_intervalTimerExpiry (running : s.resetHeld = false) : exec .intervalTimerExpiry s =
    .next (if reached s.clock s.scanner.nextRound then
      { s with scanner := { s.scanner with
        round := scanChannels s.scanner.setCode
        nextRound := later s.scanner.nextRound (scanInterval s.scanner.intervalCode) } }
    else s) :=
  whenRunning_running running _

variable {ch : Channel} {raw : BitVec 12} {pressed : Bool}

theorem exec_roundResult_other (running : s.resetHeld = false) (other : s.scanner.round.head? ≠ some ch) :
    exec (.roundResult ch raw pressed) s = .next s := by
  show execRoundResult ch raw pressed s = _
  unfold execRoundResult
  rw [whenRunning_running running]
  cases e : s.scanner.round with
  | nil => rfl
  | cons next rest =>
    have differs : next ≠ ch := fun same => other (by rw [e, same]; rfl)
    exact congrArg _ (if_neg differs)

/-- The state in which the round's next conversion has completed and its latch holds the value (R44). -/
def State.latched (s : State) (ch : Channel) (raw : BitVec 12) (rest : List Channel) : State :=
  { s with scanner := { s.scanner with
    round := rest, latches := s.scanner.latches.set ch { raw := raw, fresh := true } } }

theorem exec_roundResult_next (running : s.resetHeld = false) {rest : List Channel}
    (next : s.scanner.round = ch :: rest) : exec (.roundResult ch raw pressed) s =
      .next (takeWiredResult (channelHandset ch) raw.toNat pressed (s.latched ch raw rest)) := by
  show execRoundResult ch raw pressed s = _
  unfold execRoundResult
  rw [whenRunning_running running, next]
  exact congrArg _ (if_pos rfl)

end Rounds

/-! ### A round result by presence and threshold (R47) -/

section WiredResult

variable {h : HandsetNo} {raw : Nat} {sample : Bool} {s : State}

/-- The record with the time of its last sample (R47). -/
def Handset.seenAt (r : Handset) (now : Time) : Handset := { r with lastSample := now }

/-- A result for an ACTIVE handset: taken and debounced, counted, or the third low one in a row (R47). -/
theorem takeWiredResult_active (active : s.handsets[h].presence = .active) : takeWiredResult h raw sample s =
    if 64 ≤ raw then
      debounceButton h sample (s.setHandset h
        { (s.handsets[h].seenAt s.clock).takeStep (deriveStep s.handsets[h].calibration raw) with
          presenceCount := 0 })
    else if s.handsets[h].presenceCount + 1 < 3 then
      debounceButton h sample (s.setHandset h
        { s.handsets[h].seenAt s.clock with presenceCount := s.handsets[h].presenceCount + 1 })
    else
      raise (.handsetAbsent h s.handsets[h].pairing.car .lowInput)
        (s.setHandset h (s.handsets[h].seenAt s.clock).makeAbsent) := by
  unfold takeWiredResult
  rw [State.modifyHandset_eq s]
  simp only [State.setHandset_get, State.modifyHandset_setHandset]
  split
  · rfl
  · next absent => cases active.symm.trans absent
  · next lost => cases active.symm.trans lost

/-- A result for a handset that is not ACTIVE: the count cleared, counted, or the third high one in a row (R47). -/
theorem takeWiredResult_inactive (inactive : s.handsets[h].presence ≠ .active) : takeWiredResult h raw sample s =
    if raw < 64 then s.setHandset h { s.handsets[h].seenAt s.clock with presenceCount := 0 }
    else if s.handsets[h].presenceCount + 1 < 3 then
      s.setHandset h { s.handsets[h].seenAt s.clock with presenceCount := s.handsets[h].presenceCount + 1 }
    else
      raise (.handsetActive h s.handsets[h].pairing.car raw) (s.setHandset h
        { (s.handsets[h].seenAt s.clock).takeStep (deriveStep s.handsets[h].calibration raw) with
          presence := .active, presenceCount := 0, prevSample := some sample }) := by
  unfold takeWiredResult
  rw [State.modifyHandset_eq s]
  simp only [State.setHandset_get, State.modifyHandset_setHandset]
  split
  · next active => exact absurd active inactive
  · rfl
  · rfl

/-- The record an ACTIVE handset's button is debounced on: the new step, or a low result counted (R47). -/
def Handset.taken (r : Handset) (now : Time) (raw : Nat) : Handset :=
  if 64 ≤ raw then { (r.seenAt now).takeStep (deriveStep r.calibration raw) with presenceCount := 0 }
  else { r.seenAt now with presenceCount := r.presenceCount + 1 }

section Taken

variable (r : Handset) (now : Time) (raw : Nat)

theorem Handset.taken_prevSample : (r.taken now raw).prevSample = r.prevSample := by
  unfold Handset.taken; split <;> rfl

theorem Handset.taken_button : (r.taken now raw).button = r.button := by
  unfold Handset.taken; split <;> rfl

theorem Handset.taken_pairing : (r.taken now raw).pairing = r.pairing := by
  unfold Handset.taken; split <;> rfl

end Taken

theorem takeWiredResult_debounced (active : s.handsets[h].presence = .active)
    (stays : 64 ≤ raw ∨ s.handsets[h].presenceCount < 2) : takeWiredResult h raw sample s =
      debounceButton h sample (s.setHandset h (s.handsets[h].taken s.clock raw)) := by
  rw [takeWiredResult_active active]
  unfold Handset.taken
  split
  · rfl
  · next low => exact if_pos (Nat.succ_lt_succ (stays.resolve_left low))

end WiredResult

/-- Settles O36: the timer by its time, a result by the round's next channel, and then by R47's table and R48's
debounce. -/
theorem wiredRoundResults : Obligations.WiredRoundResults := by
  intro ch raw pressed s running
  refine ⟨fun come => ?_, fun early => ?_, exec_roundResult_other running, fun rest next => ?_⟩
  · rw [exec_intervalTimerExpiry running, if_pos come]
    rfl
  · rw [exec_intervalTimerExpiry running, if_neg (by simp [early])]
  intro h r step after seen
  let w := s.latched ch raw rest
  have result {t : State} (e : takeWiredResult h raw.toNat pressed w = t) :
      exec (.roundResult ch raw pressed) s = .next t := (exec_roundResult_next running next).trans (congrArg _ e)
  refine ⟨fun inactive => ?inactive, fun active low third => ?leaves, fun active stays => ?active⟩
  case inactive =>
    have taken := takeWiredResult_inactive (sample := pressed) (raw := raw.toNat) (s := w) inactive
    refine ⟨fun low => result (taken.trans (if_pos low)), fun high early => result (taken.trans ?_),
      fun high third => result (taken.trans ?_)⟩
    · exact (if_neg high.not_gt).trans (if_pos (Nat.succ_lt_succ early))
    · exact (if_neg high.not_gt).trans (if_neg (Nat.succ_lt_succ_iff.not.mpr third.not_gt))
  case leaves =>
    refine result ((takeWiredResult_active (s := w) active).trans ?_)
    exact (if_neg low.not_ge).trans (if_neg (Nat.succ_lt_succ_iff.not.mpr third.not_gt))
  case active =>
    intro taken
    let x := r.taken s.clock raw.toNat
    have sampled : x.sampled pressed = taken := by
      dsimp only [x, taken, Handset.taken]
      split <;> rfl
    have debounced {t : State} (e : debounceButton h pressed (w.setHandset h x) = t) :
        exec (.roundResult ch raw pressed) s = .next t :=
      result ((takeWiredResult_debounced (s := w) active stays).trans e)
    have previous : x.prevSample = r.prevSample := r.taken_prevSample ..
    have button : x.button = r.button := r.taken_button ..
    have pairing : x.pairing = r.pairing := r.taken_pairing ..
    rw [← previous, ← button, ← pairing, ← sampled]
    refine ⟨fun still => debounced (debounceButton_level still), fun repeated edge => ⟨?_, ?_⟩⟩
    · rintro rfl
      exact debounced (debounceButton_release repeated (by simpa using edge))
    · rintro rfl
      have up : x.button = false := by simpa using edge
      exact ⟨fun c bound => debounced (debounceButton_press_bound repeated up bound),
        fun unbound => debounced (debounceButton_press_unbound repeated up unbound)⟩

end Sys2Proof.Machine
end

section
/-!
O37 and O38. The radio samples of one request, by induction over the body, and what one of them does; the ends of a
handset's hold and LOST times; and the console's handset settings, SET SCAN by induction over the handsets outside
the set.
-/

namespace Sys2Proof.Machine

/-! ### The body of POST SAMPLES (R49) -/

/-- The bytes of one sample: handset number, throttle and button (R49, R181). -/
def sampleBytes (x : Byte × Byte × Bool) : List Byte := [x.1, x.2.1, if x.2.2 then 0x01 else 0x00]

/-- One sample applied: taken when it names a radio handset, and skipped otherwise. -/
def applySample (s : State) (x : Byte × Byte × Bool) : State :=
  if h : 8 ≤ x.1.toNat ∧ x.1.toNat < 16 then takeSample ⟨x.1.toNat, h.2⟩ x.2.1.toNat x.2.2 s else s

/-- How many samples name a radio handset. -/
def acceptedCount (samples : List (Byte × Byte × Bool)) : Nat :=
  samples.countP fun x => decide (8 ≤ x.1.toNat ∧ x.1.toNat < 16)

theorem radioHandset_accepted {b : Byte} (h : 8 ≤ b.toNat ∧ b.toNat < 16) :
    radioHandset b = some ⟨b.toNat, h.2⟩ := by
  simp [radioHandset, numbered, isWired, h.1, h.2]

theorem radioHandset_skipped {b : Byte} (h : ¬(8 ≤ b.toNat ∧ b.toNat < 16)) : radioHandset b = none := by
  unfold radioHandset numbered
  by_cases inTable : b.toNat < 16
  · have wired : b.toNat < 8 := by omega
    simp [inTable, isWired, wired]
  · simp [inTable]

theorem isYes_buttonByte (pressed : Bool) : isYes (if pressed then 0x01 else 0x00) = pressed := by
  cases pressed <;> rfl

theorem takeSamples_cons (x : Byte × Byte × Bool) (rest : List Byte) (s : State) :
    takeSamples (sampleBytes x ++ rest) s = takeSamples rest (applySample s x) := by
  simp only [sampleBytes, List.cons_append, List.nil_append, takeSamples, isYes_buttonByte, applySample]
  by_cases accepted : 8 ≤ x.1.toNat ∧ x.1.toNat < 16
  · rw [radioHandset_accepted accepted, dif_pos accepted]
  · rw [radioHandset_skipped accepted, dif_neg accepted]

theorem takeSamples_posted (samples : List (Byte × Byte × Bool)) (s : State) :
    takeSamples (samples.flatMap sampleBytes) s = samples.foldl applySample s := by
  induction samples generalizing s with
  | nil => rfl
  | cons x rest ih => rw [List.flatMap_cons, takeSamples_cons, ih, List.foldl_cons]

theorem countSamples_posted (samples : List (Byte × Byte × Bool)) : countSamples (samples.flatMap sampleBytes) =
    (acceptedCount samples, samples.length - acceptedCount samples) := by
  induction samples with
  | nil => rfl
  | cons x rest ih =>
    have bounded : acceptedCount rest ≤ rest.length := List.countP_le_length
    simp only [List.flatMap_cons, sampleBytes, List.cons_append, List.nil_append, countSamples]
    rw [ih]
    by_cases accepted : 8 ≤ x.1.toNat ∧ x.1.toNat < 16
    · have counted : acceptedCount (x :: rest) = acceptedCount rest + 1 :=
        List.countP_cons_of_pos (by simpa using accepted)
      rw [radioHandset_accepted accepted, counted, List.length_cons, Nat.add_sub_add_right]
      rfl
    · have skipped : acceptedCount (x :: rest) = acceptedCount rest :=
        List.countP_cons_of_neg (by simpa using accepted)
      rw [radioHandset_skipped accepted, skipped, List.length_cons, Nat.succ_sub bounded]
      rfl

theorem samplesReserved_posted (samples : List (Byte × Byte × Bool)) :
    samplesReserved (samples.flatMap sampleBytes) = false := by
  induction samples with
  | nil => rfl
  | cons x rest ih =>
    have clear : ((if x.2.2 then 0x01 else 0x00 : Byte) &&& 0xFE != 0) = false := by cases x.2.2 <;> rfl
    exact Bool.or_eq_false_iff.mpr ⟨clear, ih⟩

theorem postSamples_lengthFits {samples : List (Byte × Byte × Bool)} (one : 1 ≤ samples.length)
    (eight : samples.length ≤ 8) :
    Request.postSamples.lengthFits (byte samples.length :: samples.flatMap sampleBytes) = true := by
  have length : (samples.flatMap sampleBytes).length = 3 * samples.length := by
    simp [List.length_flatMap, sampleBytes, Nat.mul_comm]
  have count : (byte samples.length).toNat = samples.length := byte_toNat (by omega)
  simp [Request.lengthFits, length, count, one, eight, Nat.add_comm]

theorem exec_postSamples {samples : List (Byte × Byte × Bool)} {s : State} (one : 1 ≤ samples.length)
    (eight : samples.length ≤ 8)
    (frame : FrameEnded .radio 0x44 (byte samples.length :: samples.flatMap sampleBytes) s) :
    exec (.postSamples .radio) s = .next (withReply .radio 0x00
      [byte (acceptedCount samples), byte (samples.length - acceptedCount samples)]
      (samples.foldl applySample s)) := by
  refine exec_owner (x := .postSamples) (r := ⟨.ok, _⟩) frame rfl (postSamples_lengthFits one eight)
    (samplesReserved_posted samples) rfl ?_
  show postSamples _ s = _
  unfold postSamples
  rw [List.tail_cons, countSamples_posted, takeSamples_posted]
  rfl

/-! ### One accepted sample (R50, R54) -/

section Sample

variable {h : HandsetNo} {throttle : Nat} {pressed : Bool} {s : State}

/-- A handset's record after stages 1 to 3 of an accepted sample (R50, R54). -/
def Handset.heard (r : Handset) (now : Time) (throttle : Nat) : Handset :=
  { r.takeStep (deriveStep r.calibration throttle) with
    presence := .active, lastSample := now, holdEnd := some (later now 2500), lostTime := some (later now 5000) }

/-- The event a sample raises when it makes its handset ACTIVE (R50, R60). -/
def tellActive (h : HandsetNo) (throttle : Nat) (s : State) : State :=
  if s.handsets[h].presence = .active then s
  else raise (.handsetActive h s.handsets[h].pairing.car throttle) s

theorem takeSample_eq : takeSample h throttle pressed s =
    takeButton h pressed ((tellActive h throttle s).setHandset h (s.handsets[h].heard s.clock throttle)) := by
  unfold takeSample tellActive
  rw [State.modifyHandset_eq s]
  simp only [State.setHandset_get, State.modifyHandset_setHandset]
  by_cases active : s.handsets[h].presence = .active
  · rw [if_pos active, if_pos active, State.modifyHandset_setHandset]
    simp only [Handset.heard, Handset.takeStep, active]
  · rw [if_neg active, if_neg active]
    simp only [← raise_setHandset, State.modifyHandset_setHandset]
    rfl

theorem tellActive_clock : (tellActive h throttle s).clock = s.clock := by
  unfold tellActive; split <;> rfl

end Sample

/-! ### The ends of the hold and LOST times (R51) -/

section Ends

variable {h : HandsetNo} {s : State}

theorem exec_holdEnd (running : s.resetHeld = false) : exec (.holdEnd h) s =
    .next (if due s.clock s.handsets[h].holdEnd then
      s.setHandset h { s.handsets[h] with holdEnd := none, step := 0, button := false, holdTimer := none }
    else s) :=
  whenRunning_running running _

theorem exec_lostTime (running : s.resetHeld = false) : exec (.lostTime h) s =
    .next (if due s.clock s.handsets[h].lostTime then
      raise (.handsetLost h s.handsets[h].pairing.car s.handsets[h].lastSample)
        (s.setHandset h { s.handsets[h] with lostTime := none, presence := .lost })
    else s) :=
  whenRunning_running running _

/-- An expiry that is not pending, or is later than now, is not due. -/
theorem not_due_of_all {now : Time} {t : Option Time} (early : t.all (fun t => !reached now t) = true) :
    ¬due now t = true := by
  cases t with
  | none => exact Bool.false_ne_true
  | some t => simpa [due] using early

end Ends

/-- Settles O37: the body by induction, one sample by the button's edge, and the two ends by what is due. -/
theorem radioSamples : Obligations.RadioSamples := by
  refine ⟨fun samples s one eight frame => exec_postSamples one eight frame, ?_⟩
  intro h throttle pressed s r step told after taken
  have told_eq : tellActive h throttle s = told := rfl
  have outcome {t : State} (e : takeButton h pressed (told.setHandset h taken) = t) :
      takeSample h throttle pressed s = t := takeSample_eq.trans e
  have after_eq (x : Handset) : told.setHandset h x = after x := by
    dsimp only [after, told]
    split <;> rfl
  have clock : told.clock = s.clock := tellActive_clock
  refine ⟨fun same => outcome ((takeButton_level (x := taken) same).trans (after_eq _)), fun down up => ?release,
    fun up down => ?press, fun running => ⟨fun t pending come => ?_, fun t pending come => ?_, fun early => ?_,
      fun early => ?_⟩⟩
  case release =>
    subst up
    exact outcome ((takeButton_release (x := taken) down).trans (after_eq _))
  case press =>
    subst down
    intro x
    have pressed_eq : taken.pressed told.clock = x := by rw [clock]; rfl
    refine ⟨fun c bound => outcome ?_, fun unbound => outcome ?_⟩
    · rw [takeButton_press_bound (x := taken) up bound, pressed_eq, after_eq]
    · rw [takeButton_press_unbound (x := taken) up unbound, pressed_eq, after_eq]
  · rw [exec_holdEnd running]
    exact congrArg _ (if_pos (by rw [pending]; exact come))
  · rw [exec_lostTime running]
    exact congrArg _ (if_pos (by rw [pending]; exact come))
  · rw [exec_holdEnd running]
    exact congrArg _ (if_neg (not_due_of_all early))
  · rw [exec_lostTime running]
    exact congrArg _ (if_neg (not_due_of_all early))

/-! ### WRITE CALIBRATION (R52) -/

/-- A calibration whose fields have room in their bytes. -/
structure Calibration.Encodable (k : Calibration) : Prop where
  zero : k.zero ≤ 65535
  full : k.full ≤ 65535
  deadband : k.deadband ≤ 65535

theorem Calibration.inRange_iff (k : Calibration) (h : HandsetNo) : k.inRange h = true ↔
    k.zero ≤ sourceMax h ∧ k.full ≤ sourceMax h ∧ k.deadband ≤ sourceMax h ∧
      sourceMax h / 16 ≤ ((k.full : Int) - k.zero).natAbs ∧ k.deadband ≤ sourceMax h / 8 := by
  have span : max k.full k.zero - min k.full k.zero = ((k.full : Int) - k.zero).natAbs := by omega
  simp only [Calibration.inRange, Bool.and_eq_true, decide_eq_true_eq, span, and_assoc]

theorem sourceMax_mk {n : Nat} (h : n < 16) : sourceMax ⟨n, h⟩ = if n < 8 then 4095 else 255 := by
  simp [sourceMax, isWired]

section Calibrations

variable {n : Nat} {k : Calibration} {s : State}

theorem writeCalibration_busy (busy : s.store ≠ .idle) :
    writeCalibration (byte n :: k.bytes) s = (s, Reply.bare .busy) := if_pos (storeBusy_eq_true.mpr busy)

theorem writeCalibration_above (idle : s.store = .idle) (hn : n ≤ 255) (above : 16 ≤ n) :
    writeCalibration (byte n :: k.bytes) s = (s, Reply.bare .range) := by
  simp only [writeCalibration, Calibration.bytes, bytes2, List.cons_append, List.nil_append]
  rw [storeBusy_eq_false.mpr idle, numbered_none hn above]
  rfl

theorem writeCalibration_inTable (fits : k.Encodable) (idle : s.store = .idle) (h : n < 16) :
    writeCalibration (byte n :: k.bytes) s =
      if k.inRange ⟨n, h⟩ then (s.setHandset ⟨n, h⟩ { s.handsets[n] with calibration := k }, Reply.bare .ok)
      else (s, Reply.bare .range) := by
  simp only [writeCalibration, Calibration.bytes, bytes2, List.cons_append, List.nil_append,
    number2_bytes fits.zero, number2_bytes fits.full, number2_bytes fits.deadband,
    numbered_byte (show 16 ≤ 256 by decide) h]
  rw [storeBusy_eq_false.mpr idle]
  rfl

theorem exec_writeCalibration {t : State} {st : Status} (h : FrameEnded .console 0x40 (byte n :: k.bytes) s)
    (answer : writeCalibration (byte n :: k.bytes) s = (t, Reply.bare st)) :
    exec (.writeCalibration .console) s = .next (withReply .console st.code [] t) :=
  exec_owner (x := .writeCalibration) h rfl rfl rfl rfl answer

end Calibrations

/-! ### SET SCAN (R43, R45) -/

section Scan

variable {a b : Byte} {s : State}

theorem setScan_busy (busy : s.store ≠ .idle) : setScan [a, b] s = (s, Reply.bare .busy) :=
  if_pos (storeBusy_eq_true.mpr busy)

theorem setScan_outside (idle : s.store = .idle) (outside : 2 < a.toNat ∨ 3 < b.toNat) :
    setScan [a, b] s = (s, Reply.bare .range) := by
  have refused : scanInRange a.toNat b.toNat = false := by
    simp only [scanInRange, Bool.and_eq_false_iff, decide_eq_false_iff_not]
    omega
  simp only [setScan]
  rw [storeBusy_eq_false.mpr idle, refused]
  rfl

theorem setScan_inRange (idle : s.store = .idle) (ha : a.toNat ≤ 2) (hb : b.toNat ≤ 3) :
    setScan [a, b] s = (applyScan a.toNat b.toNat s, Reply.bare .ok) := by
  have accepted : scanInRange a.toNat b.toNat = true := by simp [scanInRange, ha, hb]
  simp only [setScan]
  rw [storeBusy_eq_false.mpr idle, accepted]
  rfl

theorem exec_setScan {t : State} {st : Status} (h : FrameEnded .console 0x41 [a, b] s)
    (answer : setScan [a, b] s = (t, Reply.bare st)) :
    exec (.setScan .console) s = .next (withReply .console st.code [] t) :=
  exec_owner (x := .setScan) h rfl rfl rfl rfl answer

theorem leaveScanSet_handsets (h : HandsetNo) (s : State) :
    (leaveScanSet h s).handsets = update s.handsets h Handset.makeAbsent := by
  unfold leaveScanSet
  dsimp only
  split <;> rfl

theorem foldl_leaveScanSet_handsets (l : List HandsetNo) (s : State) :
    (l.foldl (fun s h => leaveScanSet h s) s).handsets =
      l.foldl (fun v h => update v h Handset.makeAbsent) s.handsets := by
  induction l generalizing s with
  | nil => rfl
  | cons h l ih => rw [List.foldl_cons, List.foldl_cons, ih, leaveScanSet_handsets]

theorem outsideScanSet_nodup (setCode : Nat) : (outsideScanSet setCode).Nodup :=
  (List.nodup_finRange 16).filter _

/-- Step 3 of R45, handset by handset: those outside the set are ABSENT, and the others stay. -/
theorem applyScan_get (setCode intervalCode : Nat) (s : State) (h : HandsetNo) :
    (applyScan setCode intervalCode s).handsets[h] =
      if h ∈ outsideScanSet setCode then s.handsets[h].makeAbsent else s.handsets[h] := by
  unfold applyScan
  rw [foldl_leaveScanSet_handsets]
  exact foldl_update_get (fun _ => Handset.makeAbsent) _ (outsideScanSet_nodup setCode) s.handsets h

theorem outsideScanSet_eq (setCode : Nat) : outsideScanSet setCode =
    (List.finRange 16).filter fun h => decide (h.val < 8 ∧ 2 ^ (setCode + 1) ≤ h.val) :=
  congrArg (List.filter · _) (funext fun _ => (Bool.decide_and _ _).symm)

end Scan

/-! ### READ RAW (R46) -/

section Raw

variable {n : Nat} {s : State}

theorem exec_readRaw_inTable (frame : FrameEnded .console 0x42 [byte n] s) (h : n < 8) :
    exec (.readRaw .console) s = .next (withReply .console 0x00 (rawReply s.scanner.latches[n])
      { s with scanner := { s.scanner with
        latches := s.scanner.latches.set n { s.scanner.latches[n] with fresh := false } } }) := by
  refine exec_owner (x := .readRaw) (r := ⟨.ok, _⟩) frame rfl rfl rfl rfl ?_
  simp only [ownerOf, readRaw, numbered_byte (show 8 ≤ 256 by decide) h]
  rfl

theorem exec_readRaw_above (frame : FrameEnded .console 0x42 [byte n] s) (hn : n ≤ 255) (above : 8 ≤ n) :
    exec (.readRaw .console) s = .next (withReply .console 0x14 [] s) := by
  refine exec_refuseRange (x := .readRaw) frame rfl rfl rfl rfl ?_
  simp only [ownerOf, readRaw, numbered_none hn above]

end Raw

/-- Settles O38: each request by its tests in their order, and SET SCAN's handsets by the fold over those outside
the set. -/
theorem handsetSettings : Obligations.HandsetSettings := by
  intro s
  refine ⟨fun n k hn zero full deadband frame =>
      ⟨fun busy => ?_, fun idle => ⟨fun above => ?_, fun h => ?calibration⟩⟩,
    fun a b frame => ⟨fun busy => ?_, fun idle => ⟨fun outside => ?_, fun ha hb => ?scan⟩⟩,
    fun n hn frame => ⟨exec_readRaw_inTable frame, exec_readRaw_above frame hn⟩⟩
  · exact exec_writeCalibration (st := .busy) frame (writeCalibration_busy busy)
  · exact exec_writeCalibration (st := .range) frame (writeCalibration_above idle hn above)
  case calibration =>
    intro top
    have written := writeCalibration_inTable (s := s) ⟨zero, full, deadband⟩ idle h
    have inRange : k.inRange ⟨n, h⟩ = true ↔ k.zero ≤ top ∧ k.full ≤ top ∧ k.deadband ≤ top ∧
        top / 16 ≤ ((k.full : Int) - k.zero).natAbs ∧ k.deadband ≤ top / 8 := by
      rw [Calibration.inRange_iff, sourceMax_mk]
    refine ⟨fun zeroFits fullFits bandFits span narrow => ?_, fun outside => ?_⟩
    · have fits := inRange.mpr ⟨zeroFits, fullFits, bandFits, span, narrow⟩
      exact exec_writeCalibration (st := .ok) frame (written.trans (if_pos fits))
    · have refused : ¬k.inRange ⟨n, h⟩ = true := by rw [inRange]; omega
      exact exec_writeCalibration (st := .range) frame (written.trans (if_neg refused))
  · exact exec_setScan (st := .busy) frame (setScan_busy busy)
  · exact exec_setScan (st := .range) frame (setScan_outside idle outside)
  case scan =>
    intro gone leave outside t
    have outside_eq : outsideScanSet a.toNat = outside := outsideScanSet_eq _
    have scanned : applyScan a.toNat b.toNat s = t := by
      unfold applyScan
      rw [outside_eq]
      rfl
    refine ⟨?_, fun h mem => ?_, fun h other => ?_, ?_⟩
    · exact exec_setScan (st := .ok) frame (by rw [setScan_inRange idle ha hb, scanned])
    · rw [← scanned, applyScan_get, if_pos (outside_eq ▸ mem)]
      rfl
    · rw [← scanned, applyScan_get, if_neg (outside_eq ▸ other)]
    · have footprint := applyScan_footprint a.toNat b.toNat s
      rw [scanned] at footprint
      have scanner : t.scanner = (restartScanner a.toNat b.toNat s).scanner :=
        (congrArg State.scanner footprint :)
      rw [scanner]
      exact footprint

end Sys2Proof.Machine
end

section
/-!
O39. A hold timer's expiry is a seek request on the handset's stopped record, refused by the first of R65's tests or
taken by R66; a seek timer's expiry takes the handset's one entry out of the queue.
-/

namespace Sys2Proof.Machine

/-! ### R65's tests, in their order -/

section Refusal

variable {h : HandsetNo} {x : Handset} {s : State}

theorem seekRefusal_seeking (seeking : s.handsets[h].pairing = .seeking) :
    seekRefusal h s = some .alreadySeeking := if_pos seeking

theorem seekRefusal_full (other : s.handsets[h].pairing ≠ .seeking) (full : 4 ≤ s.seeks.length) :
    seekRefusal h s = some .queueFull := (if_neg other).trans (if_pos full)

theorem seekRefusal_busy {c : CarNo} (bound : s.handsets[h].pairing = .bound c) (room : s.seeks.length < 4)
    (busy : s.store ≠ .idle) : seekRefusal h s = some .storeBusy := by
  unfold seekRefusal
  rw [bound, if_neg nofun, if_neg room.not_ge, storeBusy_eq_true.mpr busy]
  rfl

theorem seekRefusal_none_of_idle (idle : s.handsets[h].pairing = .idle) (room : s.seeks.length < 4) :
    seekRefusal h s = none := by
  unfold seekRefusal
  rw [idle, if_neg nofun, if_neg room.not_ge]
  rfl

theorem seekRefusal_none_of_bound {c : CarNo} (bound : s.handsets[h].pairing = .bound c) (room : s.seeks.length < 4)
    (ready : s.store = .idle) : seekRefusal h s = none := by
  unfold seekRefusal
  rw [bound, if_neg nofun, if_neg room.not_ge, storeBusy_eq_false.mpr ready]
  rfl

/-! ### The seek request (R65, R66) -/

theorem seekRequest_refused {reason : SeekRefusal} (refused : seekRefusal h s = some reason) :
    seekRequest h s = raise (.seekRefused h s.handsets[h].pairing.car reason) s := by
  unfold seekRequest
  rw [refused]

theorem seekRequest_idle (taken : seekRefusal h s = none) (idle : s.handsets[h].pairing = .idle) :
    seekRequest h s = joinQueue h s := by
  unfold seekRequest
  rw [taken, idle]

theorem seekRequest_bound {c : CarNo} (taken : seekRefusal h s = none) (bound : s.handsets[h].pairing = .bound c) :
    seekRequest h s = joinQueue h (dissolve h c .reseek s) := by
  unfold seekRequest
  rw [taken, bound]

theorem setPairing_setHandset (p : PairingState) :
    setPairing h p (s.setHandset h x) = s.setHandset h { x with pairing := p } :=
  State.modifyHandset_setHandset ..

/-- A pairing state set after a binding is dissolved is set in the dissolving (R66, R68). -/
theorem setPairing_dissolve (c : CarNo) (cause : UnbindCause) (p : PairingState) :
    setPairing h p (dissolve h c cause s) = raise (.unbound h (some c) cause)
      ((setPairing h p (setPairing h .idle s)).modifyCar c fun r => { r with binding := none, intent := none }) :=
  rfl

theorem joinQueue_eq : joinQueue h s = raise (.seekStart h (s.seeks.length + 1))
    { setPairing h .seeking s with seeks := s.seeks ++ [{ handset := h, joined := s.clock }] } := by
  unfold joinQueue
  dsimp only
  rw [List.length_append]
  rfl

end Refusal

/-! ### The two expiries -/

section Expiries

variable {h : HandsetNo} {s : State}

theorem exec_holdTimerExpiry (running : s.resetHeld = false) : exec (.holdTimerExpiry h) s =
    .next (if due s.clock (holdExpiry s.handsets[h]) then
      seekRequest h (s.setHandset h { s.handsets[h] with holdTimer := none }) else s) :=
  whenRunning_running running _

theorem exec_seekTimerExpiry_unqueued (running : s.resetHeld = false) (unqueued : seekOf h s = none) :
    exec (.seekTimerExpiry h) s = .next s := by
  show execSeekTimerExpiry h s = _
  unfold execSeekTimerExpiry
  rw [whenRunning_running running, unqueued]

theorem exec_seekTimerExpiry_queued {e : Seek} (running : s.resetHeld = false) (queued : seekOf h s = some e) :
    exec (.seekTimerExpiry h) s = .next (if reached s.clock (e.joined + 200000) then
      raise (.seekTimeout h e.joined) (setPairing h .idle (leaveQueue h s)) else s) := by
  show execSeekTimerExpiry h s = _
  unfold execSeekTimerExpiry
  rw [whenRunning_running running, queued]
  rfl

theorem seekOf_eq_none (absent : h ∉ s.seeks.map Seek.handset) : seekOf h s = none :=
  List.find?_eq_none.mpr fun e mem same => absent (List.mem_map.mpr ⟨e, mem, by simpa using same⟩)

/-- Entries of other handsets, by the queue's handset numbers. -/
theorem ne_handset_of_mem {l : List Seek} (absent : h ∉ l.map Seek.handset) {e : Seek} (mem : e ∈ l) :
    e.handset ≠ h := fun same => absent (List.mem_map.mpr ⟨e, mem, same⟩)

variable {e : Seek} {before after : List Seek}

theorem seekOf_eq_some (queue : s.seeks = before ++ e :: after) (own : e.handset = h)
    (absent : h ∉ before.map Seek.handset) : seekOf h s = some e := by
  unfold seekOf
  rw [queue, List.find?_append, List.find?_eq_none.mpr fun x mem => by simpa using ne_handset_of_mem absent mem]
  simp [own]

theorem leaveQueue_eq (queue : s.seeks = before ++ e :: after) (own : e.handset = h)
    (alone : h ∉ (before ++ after).map Seek.handset) : leaveQueue h s = { s with seeks := before ++ after } := by
  have others : (before ++ after).filter (fun x => x.handset != h) = before ++ after :=
    List.filter_eq_self.mpr fun x mem => by simpa using ne_handset_of_mem alone mem
  have left : s.seeks.filter (fun x => x.handset != h) = before ++ after := by
    rw [queue, List.filter_append, List.filter_cons_of_neg (by simp [own]), ← List.filter_append, others]
  unfold leaveQueue
  rw [left]

end Expiries

/-- Settles O39: the hold timer by R65's tests in their order on the stopped record, and the seek timer by the
handset's entry. -/
theorem seekRequests : Obligations.SeekRequests := by
  intro h s running r stopped only joined
  refine ⟨fun early => ?_, fun t started come => ?hold, fun absent => ?_,
    fun e before after queue own alone => ?seek⟩
  · rw [exec_holdTimerExpiry running]
    refine congrArg _ (if_neg (not_due_of_all ?_))
    rw [holdExpiry, Option.all_map]
    exact early
  case hold =>
    let w := s.setHandset h stopped
    have own : w.handsets[h] = stopped := State.setHandset_get ..
    have expired {u : State} (e : seekRequest h w = u) : exec (.holdTimerExpiry h) s = .next u := by
      rw [exec_holdTimerExpiry running, if_pos]
      · exact congrArg _ e
      · rw [holdExpiry, started]
        exact come
    have refused {reason : SeekRefusal} (e : seekRefusal h w = some reason) :
        exec (.holdTimerExpiry h) s = .next (raise (.seekRefused h r.pairing.car reason) (only stopped)) :=
      expired ((seekRequest_refused e).trans (by rw [own]; rfl))
    have pairing {x : PairingState} (e : r.pairing = x) : w.handsets[h].pairing = x := by rw [own]; exact e
    refine ⟨fun seeking => ?_, fun other full => ?_, fun idle room => ?_, fun c bound room =>
      ⟨fun busy => ?_, fun ready => ?_⟩⟩
    · have told := refused (seekRefusal_seeking (pairing seeking))
      rwa [seeking] at told
    · exact refused (seekRefusal_full (by rw [own]; exact other) full)
    · refine expired ((seekRequest_idle (seekRefusal_none_of_idle (pairing idle) room) (pairing idle)).trans ?_)
      rw [joinQueue_eq, setPairing_setHandset]
      rfl
    · have told := refused (seekRefusal_busy (pairing bound) room busy)
      rwa [bound] at told
    · refine expired
        ((seekRequest_bound (seekRefusal_none_of_bound (pairing bound) room ready) (pairing bound)).trans ?_)
      rw [joinQueue_eq, setPairing_dissolve, setPairing_setHandset, setPairing_setHandset]
      rfl
  · exact exec_seekTimerExpiry_unqueued running (seekOf_eq_none absent)
  case seek =>
    have absent : h ∉ before.map Seek.handset := fun mem =>
      alone (by rw [List.map_append]; exact List.mem_append_left _ mem)
    rw [exec_seekTimerExpiry_queued running (seekOf_eq_some queue own absent)]
    refine ⟨fun early => congrArg _ (if_neg (Bool.eq_false_iff.mp early)), fun come => ?_⟩
    rw [if_pos come, leaveQueue_eq queue own alone]
    rfl

end Sys2Proof.Machine
end

section
/-!
O41. Every step keeps handset records, car records and the seek queue in agreement. The law speaks of four things
only, gathered in `Pairings`: most operations leave them as they are, and PRU's operations change them by a binding
made, a binding dissolved, a seek joined or a seek left, each of which keeps their agreement.
-/

namespace Sys2Proof.Machine

/-! ### What the law speaks of -/

/-- Every handset's pairing state, every car's binding and enabled field, and the queue's handsets in order. -/
structure Pairings where
  state : HandsetNo → PairingState
  binding : CarNo → Option HandsetNo
  enabled : CarNo → Bool
  queue : List HandsetNo

def State.pairings (s : State) : Pairings where
  state h := s.handsets[h].pairing
  binding c := s.cars[c].binding
  enabled c := s.cars[c].profile.enabled
  queue := s.seeks.map Seek.handset

/-- Handsets and cars are bound to each other or to none, bound cars are enabled, and the queue holds exactly the
SEEKING handsets, each once and at most four (R62, R63). -/
structure Pairings.Agree (x : Pairings) : Prop where
  paired : ∀ h c, x.state h = .bound c ↔ x.binding c = some h
  enabled : ∀ c, (x.binding c).isSome → x.enabled c = true
  queued : ∀ h, h ∈ x.queue ↔ x.state h = .seeking
  once : x.queue.Nodup
  room : x.queue.length ≤ 4

theorem pairingLaw_iff {s : State} : PairingLaw s ↔ s.pairings.Agree := by
  have length : s.pairings.queue.length = s.seeks.length := List.length_map ..
  exact ⟨fun h => ⟨h.agree, h.enabled, h.queued, h.once, length.le.trans h.room⟩,
    fun h => ⟨h.paired, h.enabled, h.queued, h.once, length.ge.trans h.room⟩⟩

/-- A state with the same pairings meets the law too. -/
theorem PairingLaw.congr {s t : State} (h : PairingLaw s) (same : t.pairings = s.pairings) : PairingLaw t :=
  pairingLaw_iff.mpr (same ▸ pairingLaw_iff.mp h)

/-! ### Changes of the pairings -/

namespace Pairings

def setState (x : Pairings) (h : HandsetNo) (p : PairingState) : Pairings :=
  { x with state := Function.update x.state h p }

def setBinding (x : Pairings) (c : CarNo) (b : Option HandsetNo) : Pairings :=
  { x with binding := Function.update x.binding c b }

def setEnabled (x : Pairings) (c : CarNo) (b : Bool) : Pairings :=
  { x with enabled := Function.update x.enabled c b }

def join (x : Pairings) (h : HandsetNo) : Pairings := { x with queue := x.queue ++ [h] }

def leave (x : Pairings) (h : HandsetNo) : Pairings := { x with queue := x.queue.filter (· != h) }

section Reading

variable (x : Pairings) (h k : HandsetNo) (c d : CarNo) (p : PairingState) (b : Option HandsetNo)

@[simp] theorem setState_state : (x.setState h p).state k = if k = h then p else x.state k :=
  Function.update_apply ..
@[simp] theorem setState_binding : (x.setState h p).binding = x.binding := rfl
@[simp] theorem setState_enabled : (x.setState h p).enabled = x.enabled := rfl
@[simp] theorem setState_queue : (x.setState h p).queue = x.queue := rfl
@[simp] theorem setBinding_state : (x.setBinding c b).state = x.state := rfl
@[simp] theorem setBinding_binding : (x.setBinding c b).binding d = if d = c then b else x.binding d :=
  Function.update_apply ..
@[simp] theorem setBinding_enabled : (x.setBinding c b).enabled = x.enabled := rfl
@[simp] theorem setBinding_queue : (x.setBinding c b).queue = x.queue := rfl
@[simp] theorem join_state : (x.join h).state = x.state := rfl
@[simp] theorem join_binding : (x.join h).binding = x.binding := rfl
@[simp] theorem join_queue : (x.join h).queue = x.queue ++ [h] := rfl
@[simp] theorem leave_state : (x.leave h).state = x.state := rfl
@[simp] theorem leave_binding : (x.leave h).binding = x.binding := rfl
@[simp] theorem leave_enabled : (x.leave h).enabled = x.enabled := rfl
@[simp] theorem leave_queue : (x.leave h).queue = x.queue.filter (· != h) := rfl

end Reading

variable {x : Pairings} {h : HandsetNo} {c : CarNo}

/-- A handset that is bound to no car has no car bound to it. -/
theorem Agree.unnamed (a : x.Agree) (free : ∀ d, x.state h ≠ .bound d) (d : CarNo) : x.binding d ≠ some h :=
  fun e => free d ((a.paired h d).mpr e)

/-- A handset bound to no car and an unbound, enabled car can be bound to each other; the handset leaves any
seek. -/
theorem Agree.bind (a : x.Agree) (free : ∀ d, x.state h ≠ .bound d) (unbound : x.binding c = none)
    (enabled : x.enabled c = true) : (((x.leave h).setState h (.bound c)).setBinding c (some h)).Agree where
  paired k d := by
    have agree := a.paired k d
    by_cases hk : k = h <;> by_cases hd : d = c
    · simp [hk, hd]
    · simp [hk, hd, Ne.symm hd, a.unnamed free d]
    · simpa [hk, hd, Ne.symm hk, unbound] using agree
    · simpa [hk, hd] using agree
  enabled d := by
    by_cases hd : d = c
    · simp [hd, enabled]
    · simpa [hd] using a.enabled d
  queued k := by
    by_cases hk : k = h
    · simp [hk]
    · simpa [hk] using a.queued k
  once := a.once.filter _
  room := (List.length_filter_le ..).trans a.room

/-- A binding can be dissolved. -/
theorem Agree.unbind (a : x.Agree) (bound : x.state h = .bound c) :
    ((x.setState h .idle).setBinding c none).Agree where
  paired k d := by
    have agree := a.paired k d
    have named : x.binding c = some h := (a.paired h c).mp bound
    by_cases hk : k = h <;> by_cases hd : d = c
    · simp [hk, hd]
    · have other : x.binding d ≠ some h := fun e =>
        hd (PairingState.bound.inj (((a.paired h d).mpr e).symm.trans bound))
      simp [hk, hd, other]
    · simpa [hk, hd, Ne.symm hk, named] using agree
    · simpa [hk, hd] using agree
  enabled d := by
    by_cases hd : d = c
    · simp [hd]
    · simpa [hd] using a.enabled d
  queued k := by
    by_cases hk : k = h
    · simpa [hk, bound] using a.queued h
    · simpa [hk] using a.queued k
  once := a.once
  room := a.room

/-- A pairing state that names no car can be replaced by another that names none, as far as bindings go. -/
theorem Agree.paired_of_unnamed (a : x.Agree) {p : PairingState} (free : ∀ d, x.state h ≠ .bound d)
    (named : ∀ d, p ≠ .bound d) (k : HandsetNo) (d : CarNo) :
    (x.setState h p).state k = .bound d ↔ x.binding d = some k := by
  by_cases hk : k = h
  · simp [hk, named, a.unnamed free]
  · simpa [hk] using a.paired k d

/-- An IDLE handset can join a queue with room. -/
theorem Agree.join (a : x.Agree) (idle : x.state h = .idle) (room : x.queue.length < 4) :
    ((x.setState h .seeking).join h).Agree where
  paired := a.paired_of_unnamed (by simp [idle]) (by simp)
  enabled := a.enabled
  queued k := by
    by_cases hk : k = h
    · simp [hk]
    · simpa [hk] using a.queued k
  once := by
    have absent : h ∉ x.queue := fun mem => by simpa [idle] using (a.queued h).mp mem
    simpa using List.nodup_append'.mpr ⟨a.once, List.nodup_singleton h, by simpa using absent⟩
  room := by simpa using room

/-- A SEEKING handset can leave the queue and become IDLE. -/
theorem Agree.leave (a : x.Agree) (seeking : x.state h = .seeking) : ((x.leave h).setState h .idle).Agree where
  paired := a.paired_of_unnamed (by simp [seeking]) (by simp)
  enabled := a.enabled
  queued k := by
    by_cases hk : k = h
    · simp [hk]
    · simpa [hk] using a.queued k
  once := a.once.filter _
  room := (List.length_filter_le ..).trans a.room

/-- Any car can be enabled, and an unbound one disabled. -/
theorem Agree.setEnabled (a : x.Agree) {b : Bool} (k : b = true ∨ x.binding c = none) :
    (x.setEnabled c b).Agree where
  paired := a.paired
  enabled d bound := by
    have kept := a.enabled d bound
    show Function.update x.enabled c b d = true
    rw [Function.update_apply]
    split
    · next same =>
      subst same
      exact k.resolve_right fun none => by simp [Pairings.setEnabled, none] at bound
    · exact kept
  queued := a.queued
  once := a.once
  room := a.room

end Pairings

end Sys2Proof.Machine
end

section
/-!
O41, the operations. What each operation does to the pairings: nothing, or one of the changes of `Pairings`.
-/

namespace Sys2Proof.Machine

/-! ### Changes of the state -/

section Updates

variable (s : State)

@[simp] theorem raise_pairings (e : Event) : (raise e s).pairings = s.pairings := rfl

@[simp] theorem modifyPort_pairings (p : Port) (f : PortState → PortState) :
    (s.modifyPort p f).pairings = s.pairings := rfl

@[simp] theorem modifySwitch_pairings (j : SwitchNo) (f : SwitchRun → SwitchRun) :
    (s.modifySwitch j f).pairings = s.pairings := rfl

@[simp] theorem modifyNode_pairings (a : NodeNo) (f : NodeRecord → NodeRecord) :
    (s.modifyNode a f).pairings = s.pairings := rfl

@[simp] theorem setList_pairings (j : SwitchNo) (l : List Reservation) :
    (s.setList j l).pairings = s.pairings := rfl

theorem SwitchFootprint.pairings {s t : State} (e : SwitchFootprint s t) : t.pairings = s.pairings := by
  rw [e]
  rfl

theorem UseFootprint.pairings {s t : State} (e : UseFootprint s t) : t.pairings = s.pairings := by
  rw [e]
  rfl

/-- A change of a handset record that leaves its pairing state leaves the pairings. -/
@[simp] theorem modifyHandset_pairings (h : HandsetNo) (f : Handset → Handset)
    (kept : ∀ r, (f r).pairing = r.pairing) : (s.modifyHandset h f).pairings = s.pairings := by
  have state : (s.modifyHandset h f).pairings.state = s.pairings.state := by
    funext k
    show (update s.handsets h f)[k].pairing = s.handsets[k].pairing
    rw [update_get]
    split
    · exact kept _
    · rfl
  unfold State.pairings at state ⊢
  rw [Pairings.mk.injEq]
  exact ⟨state, rfl, rfl, rfl⟩

/-- States with the same handsets and queue, and cars with the same bindings and enabled fields, have the same
pairings. -/
theorem pairings_congr {s t : State} (handsets : t.handsets = s.handsets) (seeks : t.seeks = s.seeks)
    (kept : ∀ c : CarNo, t.cars[c].binding = s.cars[c].binding ∧
      t.cars[c].profile.enabled = s.cars[c].profile.enabled) : t.pairings = s.pairings := by
  unfold State.pairings
  rw [Pairings.mk.injEq, handsets, seeks]
  exact ⟨rfl, funext fun c => (kept c).1, funext fun c => (kept c).2, rfl⟩

@[simp] theorem modifyCar_pairings (c : CarNo) (f : Car → Car)
    (kept : ∀ r, (f r).binding = r.binding ∧ (f r).profile = r.profile) :
    (s.modifyCar c f).pairings = s.pairings := by
  refine pairings_congr rfl rfl fun d => ?_
  rw [State.modifyCar_cars, update_get]
  split
  · rw [(kept _).1, (kept _).2]
    exact ⟨rfl, rfl⟩
  · exact ⟨rfl, rfl⟩

theorem updateAllCars_pairings {s t : State} {f : CarNo → Car → Car} (handsets : t.handsets = s.handsets)
    (seeks : t.seeks = s.seeks) (cars : t.cars = updateAll s.cars f)
    (kept : ∀ c r, (f c r).binding = r.binding ∧ (f c r).profile = r.profile) : t.pairings = s.pairings := by
  refine pairings_congr handsets seeks fun c => ?_
  rw [cars, updateAll_get, (kept _ _).1, (kept _ _).2]
  exact ⟨rfl, rfl⟩

end Updates

/-! ### Pairing -/

section Pairing

variable (h : HandsetNo) (c : CarNo) (s : State)

theorem setPairing_pairings (p : PairingState) : (setPairing h p s).pairings = s.pairings.setState h p := by
  have state : (setPairing h p s).pairings.state = (s.pairings.setState h p).state := by
    funext k
    rw [Pairings.setState_state]
    show (update s.handsets h _)[k].pairing = _
    rw [update_get]
    split <;> rfl
  unfold State.pairings Pairings.setState at *
  rw [Pairings.mk.injEq]
  exact ⟨state, rfl, rfl, rfl⟩

/-- A car's binding replaced, with its profile kept. -/
theorem modifyCar_pairings_of_binding (f : Car → Car) (b : Option HandsetNo)
    (bound : ∀ r, (f r).binding = b ∧ (f r).profile = r.profile) :
    (s.modifyCar c f).pairings = s.pairings.setBinding c b := by
  unfold State.pairings Pairings.setBinding
  rw [Pairings.mk.injEq]
  refine ⟨rfl, funext fun d => ?_, funext fun d => ?_, rfl⟩
  · show (update s.cars c f)[d].binding = _
    rw [update_get, Function.update_apply]
    split
    · exact (bound _).1
    · rfl
  · show (update s.cars c f)[d].profile.enabled = _
    rw [update_get]
    split
    · rw [(bound _).2]
    · rfl

theorem storedProfile_pairings (p : Profile) : (s.modifyCar c fun r => { r with profile := p }).pairings =
    s.pairings.setEnabled c p.enabled := by
  unfold State.pairings Pairings.setEnabled
  rw [Pairings.mk.injEq]
  refine ⟨rfl, funext fun d => ?_, funext fun d => ?_, rfl⟩
  · show (update s.cars c _)[d].binding = _
    rw [update_get]
    split <;> rfl
  · show (update s.cars c _)[d].profile.enabled = _
    rw [update_get, Function.update_apply]
    split <;> rfl

theorem leaveQueue_pairings : (leaveQueue h s).pairings = s.pairings.leave h := by
  have queue : (s.seeks.filter fun e => e.handset != h).map Seek.handset =
      (s.seeks.map Seek.handset).filter (· != h) :=
    (List.filter_map (f := Seek.handset) (p := (· != h))).symm
  unfold State.pairings Pairings.leave
  rw [Pairings.mk.injEq]
  exact ⟨rfl, rfl, rfl, queue⟩

theorem makeBinding_pairings (source : BindSource) : (makeBinding h c source s).pairings =
    (s.pairings.setState h (.bound c)).setBinding c (some h) := by
  rw [← setPairing_pairings]
  exact modifyCar_pairings_of_binding c (setPairing h (.bound c) s) (fun r => { r with binding := some h }) _
    fun _ => ⟨rfl, rfl⟩

theorem dissolve_pairings (cause : UnbindCause) : (dissolve h c cause s).pairings =
    (s.pairings.setState h .idle).setBinding c none := by
  rw [← setPairing_pairings]
  exact modifyCar_pairings_of_binding c (setPairing h .idle s) (fun r => { r with binding := none, intent := none }) _
    fun _ => ⟨rfl, rfl⟩

theorem joinQueue_pairings : (joinQueue h s).pairings = (s.pairings.setState h .seeking).join h := by
  have queue : (s.seeks ++ [({ handset := h, joined := s.clock } : Seek)]).map Seek.handset =
      s.seeks.map Seek.handset ++ [h] := List.map_append
  rw [← setPairing_pairings, joinQueue_eq]
  unfold State.pairings Pairings.join
  rw [Pairings.mk.injEq]
  exact ⟨rfl, rfl, rfl, queue⟩

end Pairing

/-! ### Handsets -/

section Handsets

variable (n : HandsetNo) (s : State)

/-! The next two are not closed by `rfl` alone: an equation that holds by definition is not used by `simp` when it
discharges the side condition of `modifyHandset_pairings`. -/

@[simp] theorem Handset.makeAbsent_pairing (r : Handset) : r.makeAbsent.pairing = r.pairing := by
  unfold Handset.makeAbsent
  rfl

@[simp] theorem Handset.takeStep_pairing (r : Handset) (step : Nat) : (r.takeStep step).pairing = r.pairing := by
  unfold Handset.takeStep
  rfl

@[simp] theorem armRequest_pairings (c : CarNo) : (armRequest n c s).pairings = s.pairings := by
  unfold armRequest
  split <;> simp

@[simp] theorem takeButton_pairings (level : Bool) : (takeButton n level s).pairings = s.pairings := by
  unfold takeButton
  dsimp only
  split
  · rfl
  · split
    · split <;> simp
    · simp

@[simp] theorem debounceButton_pairings (sample : Bool) : (debounceButton n sample s).pairings = s.pairings := by
  unfold debounceButton
  dsimp only
  split <;> simp

@[simp] theorem takeWiredResult_pairings (raw : Nat) (sample : Bool) :
    (takeWiredResult n raw sample s).pairings = s.pairings := by
  unfold takeWiredResult
  dsimp only
  split
  · split
    · simp
    · split <;> simp
  all_goals
    split
    · simp
    · split <;> simp

@[simp] theorem takeSample_pairings (throttle : Nat) (pressed : Bool) :
    (takeSample n throttle pressed s).pairings = s.pairings := by
  unfold takeSample
  dsimp only
  split <;> simp

theorem takeSamples_pairings (samples : List Byte) : (takeSamples samples s).pairings = s.pairings := by
  induction samples, s using takeSamples.induct with
  | case1 s n throttle pressed rest ih =>
    rw [takeSamples, ih]
    split <;> simp
  | case2 samples s short =>
    rw [takeSamples]
    exact short

theorem leaveScanSet_pairings : (leaveScanSet n s).pairings = s.pairings := by
  unfold leaveScanSet
  dsimp only
  split <;> simp

theorem applyScan_pairings (setCode intervalCode : Nat) :
    (applyScan setCode intervalCode s).pairings = s.pairings :=
  foldl_keeps (fun s t => t.pairings = s.pairings) (fun _ => rfl) (fun first next => next.trans first) _
    (fun s h => leaveScanSet_pairings h s) _ (restartScanner setCode intervalCode s)

end Handsets

/-! ### Detections and the loop -/

section Track

variable (k : CarNo) (j : SwitchNo) (a : NodeNo) (s : State)

@[simp] theorem takeDetection_pairings (q : Sensor) (t : Time) : (takeDetection k q t s).pairings = s.pairings := by
  unfold takeDetection
  split <;> simp [Car.setFix]

theorem handOnVerdict_pairings (v : VerdictRecord) : (handOnVerdict v s).pairings = s.pairings := by
  refine (carryOutGrant_switchFootprint v _).pairings.trans ?_
  rw [saturationReport_footprint]
  rfl

theorem entryDetection_pairings (t : Time) : (entryDetection k j t s).pairings = s.pairings := by
  unfold entryDetection
  split
  · refine (handOnVerdict_pairings _ _).trans ((supersede_switchFootprint k _).pairings.trans ?_)
    simp
  · rfl

theorem takePassage_pairings (thrownExit : Bool) : (takePassage k j thrownExit s).pairings = s.pairings := by
  unfold takePassage
  split
  · dsimp only
    split <;> rw [(returnIfEmpty_switchFootprint j _).pairings] <;> simp
  · split <;> rfl

theorem passage_pairings (thrownExit : Bool) : (passage k j thrownExit s).pairings = s.pairings :=
  takePassage_pairings k j _ thrownExit

theorem tellNews_pairings (news : NodeNews) : (tellNews a news s).pairings = s.pairings := by
  unfold tellNews
  split
  · rfl
  · unfold nodeFaults
    dsimp only
    split
    · exact (enterFault_switchFootprint _ _ _).pairings
    · rfl
  · rfl

theorem takeAnswer_pairings : (takeAnswer a s).pairings = s.pairings := tellNews_pairings a _ _

theorem takeMiss_pairings : (takeMiss a s).pairings = s.pairings := tellNews_pairings a _ _

theorem moveServed_pairings (x : Exchange) : (moveServed x s).pairings = s.pairings := by
  rw [moveServed_footprint]
  rfl

theorem arbitrate_pairings : (arbitrate s).pairings = s.pairings := by
  rw [arbitrate_footprint]
  rfl

theorem wakeLoop_pairings : (wakeLoop s).pairings = s.pairings := by
  rw [wakeLoop_footprint]
  rfl

end Track

/-! ### Race states, map writes and cycle ends -/

section Race

variable (s : State)

theorem clearIntents_pairings : (clearIntents s).pairings = s.pairings :=
  updateAllCars_pairings rfl rfl (f := fun _ c => { c with intent := none }) rfl fun _ _ => ⟨rfl, rfl⟩

theorem haltRace_pairings (cause : RaceCause) : (haltRace cause s).pairings = s.pairings :=
  (haltRace_switchFootprint cause s).pairings.trans (clearIntents_pairings _)

theorem warmRestart_pairings : (warmRestart s).pairings = s.pairings :=
  updateAllCars_pairings rfl rfl (f := fun _ => Car.warmRestart) rfl fun _ _ => ⟨rfl, rfl⟩

theorem takeRailFault_pairings : (takeRailFault s).pairings = s.pairings := by
  unfold takeRailFault
  dsimp only
  split
  · exact haltRace_pairings _ .rail
  · exact haltRace_pairings _ .rail
  · rfl
  · rfl

theorem mapWriteEffects_pairings : (mapWriteEffects s).pairings = s.pairings :=
  updateAllCars_pairings rfl rfl (f := fun _ => Car.clearFix) rfl fun _ _ => ⟨rfl, rfl⟩

theorem followGateUse_pairings (before after : Bool) (g : Fin 16) :
    (followGateUse before after g s).pairings = s.pairings := by
  rw [followGateUse_footprint]
  rfl

theorem publishFrame_pairings : (publishFrame s).pairings = s.pairings :=
  updateAllCars_pairings rfl rfl (f := fun c r => r.takeStep (publishedStep s c)) rfl fun _ _ => ⟨rfl, rfl⟩

end Race

end Sys2Proof.Machine
end

section
/-!
O41, the law. PRU's operations meet what each change of the pairings asks for, a load's bindings have passed R200's
checks, and every other command leaves the pairings as they are.
-/

namespace Sys2Proof.Machine

section Operations

variable {s : State}

/-! ### PRU's operations -/

/-- A handset that is not BOUND and a free, enabled car are bound, as the handset leaves any seek (R71, R74). -/
theorem PairingLaw.makeBinding_leaveQueue (h : PairingLaw s) {n : HandsetNo} {c : CarNo}
    (free : ∀ d, s.handsets[n].pairing ≠ .bound d) (unbound : s.cars[c].binding = none)
    (enabled : s.cars[c].profile.enabled = true) (source : BindSource) :
    PairingLaw (makeBinding n c source (leaveQueue n s)) := by
  rw [pairingLaw_iff, makeBinding_pairings, leaveQueue_pairings]
  exact (pairingLaw_iff.mp h).bind free unbound enabled

theorem PairingLaw.dissolve (h : PairingLaw s) {n : HandsetNo} {c : CarNo} (bound : s.handsets[n].pairing = .bound c)
    (cause : UnbindCause) : PairingLaw (dissolve n c cause s) := by
  rw [pairingLaw_iff, dissolve_pairings]
  exact (pairingLaw_iff.mp h).unbind bound

theorem PairingLaw.joinQueue (h : PairingLaw s) {n : HandsetNo} (idle : s.handsets[n].pairing = .idle)
    (room : s.seeks.length < 4) : PairingLaw (joinQueue n s) := by
  rw [pairingLaw_iff, joinQueue_pairings]
  exact (pairingLaw_iff.mp h).join idle ((List.length_map ..).trans_lt room)

theorem PairingLaw.leaveQueue_idle (h : PairingLaw s) {n : HandsetNo} (seeking : s.handsets[n].pairing = .seeking) :
    PairingLaw (setPairing n .idle (leaveQueue n s)) := by
  rw [pairingLaw_iff, setPairing_pairings, leaveQueue_pairings]
  exact (pairingLaw_iff.mp h).leave seeking

/-- A dissolved binding leaves its handset IDLE (R68). -/
theorem dissolve_pairing (n : HandsetNo) (c : CarNo) (cause : UnbindCause) (s : State) :
    (dissolve n c cause s).handsets[n].pairing = .idle := by
  have state : (dissolve n c cause s).pairings.state n = .idle := by simp [dissolve_pairings]
  exact state

/-- A seek request that is taken finds its handset not SEEKING and room in the queue (R65). -/
theorem seekRefusal_eq_none {n : HandsetNo} (taken : seekRefusal n s = none) :
    s.handsets[n].pairing ≠ .seeking ∧ s.seeks.length < 4 := by
  unfold seekRefusal at taken
  split at taken
  · cases taken
  · next other =>
    split at taken
    · cases taken
    · next room => exact ⟨other, Nat.not_le.mp room⟩

theorem PairingLaw.seekRequest (h : PairingLaw s) (n : HandsetNo) : PairingLaw (seekRequest n s) := by
  cases refusal : seekRefusal n s with
  | some reason =>
    rw [seekRequest_refused refusal]
    exact h.congr rfl
  | none =>
    obtain ⟨other, room⟩ := seekRefusal_eq_none refusal
    cases pairing : s.handsets[n].pairing with
    | idle =>
      rw [seekRequest_idle refusal pairing]
      exact h.joinQueue pairing room
    | seeking => exact absurd pairing other
    | bound c =>
      rw [seekRequest_bound refusal pairing]
      exact (h.dissolve pairing _).joinQueue (dissolve_pairing ..) room

/-- The head of the queue is SEEKING, so that the pairing gate binds a handset that is bound to no car (R71). -/
theorem PairingLaw.pairingGateDetection (h : PairingLaw s) {c : CarNo} (enabled : s.cars[c].profile.enabled = true) :
    PairingLaw (pairingGateDetection c s) := by
  unfold Machine.pairingGateDetection
  split
  · exact h
  · next e rest queue =>
    split
    · next taken =>
      have unbound : s.cars[c].binding = none := by
        rw [Bool.and_eq_true] at taken
        exact Option.isNone_iff_eq_none.mp taken.1
      have seeking : s.handsets[e.handset].pairing = .seeking := (h.queued _).mp (by simp [queue])
      exact h.makeBinding_leaveQueue (fun d => by rw [seeking]; nofun) unbound enabled _
    · exact h

/-! ### Detections and the loop -/

theorem PairingLaw.handOn (h : PairingLaw s) {k : CarNo} (enabled : s.cars[k].profile.enabled = true) (q : Sensor)
    (t : Time) : PairingLaw (handOn k q t s) := by
  unfold Machine.handOn
  split
  · split
    · exact h.congr (entryDetection_pairings ..)
    · exact h
  · exact h.congr (passage_pairings ..)
  · exact h.congr (passage_pairings ..)
  · split
    · exact h.pairingGateDetection enabled
    · exact h
  · exact h

/-- Detections of disabled cars are turned away, so none of them reaches the pairing gate (R141). -/
theorem PairingLaw.takeRecord (h : PairingLaw s) (a : NodeNo) (d : Detection) : PairingLaw (takeRecord a s d) := by
  unfold Machine.takeRecord
  split
  · next inTable =>
    dsimp only
    split
    · next enabled =>
      have same := takeDetection_pairings ⟨d.carId, inTable⟩ s { node := a, kind := d.kind }
        (s.clock - BitVec.ofNat 32 (ageTaken d))
      exact (h.congr same).handOn ((congrFun (congrArg Pairings.enabled same) _).trans enabled) _ _
    · exact h.congr rfl
  · exact h.congr rfl

theorem PairingLaw.takeReply (h : PairingLaw s) (a : NodeNo) (r : NodeReply) : PairingLaw (takeReply a r s) := by
  have answered : PairingLaw (takeAnswer a s) := h.congr (takeAnswer_pairings a s)
  have records {u : State} (k : PairingLaw u) : PairingLaw (takeRecords a r u) := by
    have all : PairingLaw ((oldestFirst r.detections).foldl (Machine.takeRecord a) u) :=
      List.foldlRecOn _ _ k fun _ v d _ => v.takeRecord a d
    unfold takeRecords
    dsimp only
    split
    · exact all.congr rfl
    · exact all
  unfold Machine.takeReply
  dsimp only
  refine records ?_
  split
  · exact answered.congr (takePosition_switchFootprint _ _ _).pairings
  · exact answered

/-- An exchange's end keeps the law when its outcome does. -/
theorem PairingLaw.endExchange (h : PairingLaw s) (x : Exchange) {outcome : State → State}
    (k : PairingLaw (outcome s)) : PairingLaw (endExchange x outcome s) := by
  unfold Machine.endExchange
  refine PairingLaw.congr ?_ (arbitrate_pairings _)
  split
  · exact h
  · exact k.congr (moveServed_pairings _ x)

/-! ### Profiles -/

/-- A car that a profile disables loses its binding with it (R22). -/
theorem PairingLaw.storeProfile (h : PairingLaw s) (c : CarNo) (p : Profile) : PairingLaw (storeProfile c p s) := by
  have agree := pairingLaw_iff.mp h
  by_cases disables : s.cars[c].profile.enabled = true ∧ p.enabled = false
  · obtain ⟨before, after⟩ := disables
    rw [storeProfile_disables before after]
    refine PairingLaw.congr ?_ (modifyCar_pairings _ c Car.disable fun _ => ⟨rfl, rfl⟩)
    cases binding : s.cars[c].binding with
    | none =>
      rw [dissolveDisabled_unbound (binding_of_storedProfile.trans binding), pairingLaw_iff, storedProfile_pairings]
      exact agree.setEnabled (.inr binding)
    | some n =>
      have dissolved : ((s.pairings.setState n .idle).setBinding c none).Agree :=
        agree.unbind ((h.agree n c).mpr binding)
      rw [dissolveDisabled_bound (binding_of_storedProfile.trans binding), pairingLaw_iff, dissolve_pairings,
        storedProfile_pairings]
      exact dissolved.setEnabled (.inr (by simp))
  · rw [storeProfile_kept disables, pairingLaw_iff, storedProfile_pairings]
    refine agree.setEnabled ?_
    by_cases before : s.cars[c].profile.enabled = true
    · exact .inl (Bool.not_eq_false _ ▸ fun after => disables ⟨before, after⟩)
    · exact .inr (Option.not_isSome_iff_eq_none.mp fun bound => before (h.enabled c bound))

/-! ### Loads -/

theorem Image.binding_eq_some {i : Image} {c : CarNo} {n : HandsetNo} :
    i.binding c = some n ↔ i.bindings[c] = some n.val := by
  unfold Image.binding
  cases i.bindings[c] with
  | none => simp
  | some m =>
    dsimp only
    split
    · simp [Fin.ext_iff]
    · next outside =>
      have other : m ≠ n.val := fun e => outside (e ▸ n.isLt)
      simp [other]

/-- What R200's check 4 says of a bound car: it is enabled, and no other car is bound to its handset. -/
theorem Image.bindingsSound_bound {i : Image} (sound : i.bindingsSound = true) {c : CarNo} {n : Nat}
    (bound : i.bindings[c] = some n) :
    i.profiles[c].enabled = true ∧ ∀ d : CarNo, i.bindings[d] = some n → d = c := by
  have car := List.all_eq_true.mp sound c (mem_carNos c)
  rw [bound] at car
  obtain ⟨enabled, alone⟩ := Bool.and_eq_true_iff.mp car
  refine ⟨enabled, fun d same => ?_⟩
  simpa [same] using List.all_eq_true.mp alone d (mem_carNos d)

/-- The car found for a handset is the one that the image binds to it. -/
theorem Image.boundCar_eq_some {i : Image} (sound : i.bindingsSound = true) {c : CarNo} {n : HandsetNo} :
    i.boundCar n = some c ↔ i.binding c = some n := by
  unfold Image.boundCar
  refine ⟨fun found => ?_, fun bound => ?_⟩
  · simpa using List.find?_some found
  · obtain ⟨d, found⟩ : ∃ d, carNos.find? (fun c => i.binding c == some n) = some d :=
      Option.isSome_iff_exists.mp (List.find?_isSome.mpr ⟨c, mem_carNos c, by simpa using bound⟩)
    have also : i.binding d = some n := by simpa using List.find?_some found
    obtain ⟨-, alone⟩ := Image.bindingsSound_bound sound (Image.binding_eq_some.mp bound)
    rw [found, alone d (Image.binding_eq_some.mp also)]

/-- The pairings that a load of the image leaves (R80, R201). -/
def Image.pairings (i : Image) : Pairings where
  state h := match i.boundCar h with
    | some c => .bound c
    | none => .idle
  binding := i.binding
  enabled c := i.profiles[c].enabled
  queue := []

theorem applyLoad_pairings (i : Image) (s : State) : (applyLoad i s).pairings = i.pairings := by
  rw [applyLoad_eq, wakeLoop_pairings, raise_pairings]
  unfold State.pairings Image.pairings
  rw [Pairings.mk.injEq]
  refine ⟨funext fun h => ?_, funext fun c => ?_, funext fun c => ?_, rfl⟩
  · dsimp only
    rw [updateAll_get]
    rfl
  · dsimp only
    rw [updateAll_get]
    rfl
  · dsimp only
    rw [updateAll_get]
    rfl

theorem Image.pairings_agree {i : Image} (sound : i.bindingsSound = true) : i.pairings.Agree where
  paired h c := by
    rw [show i.pairings.binding c = i.binding c from rfl, ← Image.boundCar_eq_some sound]
    unfold Image.pairings
    dsimp only
    cases i.boundCar h <;> simp
  enabled c bound := by
    obtain ⟨n, bound⟩ := Option.isSome_iff_exists.mp bound
    exact (Image.bindingsSound_bound sound (Image.binding_eq_some.mp bound)).1
  queued h := by
    unfold Image.pairings
    dsimp only
    cases i.boundCar h <;> simp
  once := List.nodup_nil
  room := Nat.zero_le _

theorem PairingLaw.completeLoad (h : PairingLaw s) : PairingLaw (completeLoad s) := by
  unfold Machine.completeLoad
  split
  · exact h.congr rfl
  · next passed =>
    obtain ⟨-, -, -, sound, -⟩ := (loadFault_eq_none _ _).mp passed
    rw [pairingLaw_iff, applyLoad_pairings]
    exact Image.pairings_agree sound

end Operations

/-! ### Owners of requests -/

section Owners

variable {s : State}

theorem PairingLaw.validated (h : PairingLaw s) (b : Bool) : PairingLaw { s with mapValid := b } := h.congr rfl

theorem PairingLaw.changeRace (h : PairingLaw s) (x : RaceState) (cause : RaceCause) :
    PairingLaw (changeRace x cause s) := h.congr rfl

theorem PairingLaw.withMap (h : PairingLaw s) (m : TrackMap) : PairingLaw { s with map := m } := h.congr rfl

theorem PairingLaw.mapWriteEffects (h : PairingLaw s) : PairingLaw (mapWriteEffects s) :=
  h.congr (mapWriteEffects_pairings s)

theorem PairingLaw.used {t : State} (h : PairingLaw s) (e : UseFootprint s t) : PairingLaw t := h.congr e.pairings

theorem PairingLaw.followGateUse (h : PairingLaw s) (before after : Bool) (g : Fin 16) :
    PairingLaw (followGateUse before after g s) := h.congr (followGateUse_pairings ..)

theorem PairingLaw.wakeLoop (h : PairingLaw s) : PairingLaw (wakeLoop s) := h.congr (wakeLoop_pairings s)

theorem PairingLaw.startRace (h : PairingLaw s) : PairingLaw (startRace s).1 := by
  unfold Machine.startRace
  split
  · exact enterRun_keeps h h.validated ((h.validated true).changeRace _ _)
  all_goals exact h

theorem PairingLaw.cautionRace (h : PairingLaw s) : PairingLaw (cautionRace s).1 := by
  unfold Machine.cautionRace
  split
  · exact (h.changeRace _ _).congr (clearIntents_pairings _)
  all_goals exact h

theorem PairingLaw.clearCautionRace (h : PairingLaw s) : PairingLaw (clearCautionRace s).1 := by
  unfold Machine.clearCautionRace
  split
  · exact h.changeRace _ _
  all_goals exact h

theorem PairingLaw.haltRequest (h : PairingLaw s) : PairingLaw (haltRequest s).1 := by
  unfold Machine.haltRequest
  split
  · exact h
  all_goals
    rw [accept_state]
    exact h.congr (haltRace_pairings s .halt)

theorem PairingLaw.resumeRace (h : PairingLaw s) : PairingLaw (resumeRace s).1 := by
  unfold Machine.resumeRace
  split
  · have restarted : PairingLaw (Machine.warmRestart { s with mapValid := true }) :=
      (h.validated true).congr (warmRestart_pairings _)
    exact enterRun_keeps h h.validated (restarted.changeRace _ _)
  all_goals exact h

theorem PairingLaw.setupRace (h : PairingLaw s) : PairingLaw (setupRace s).1 := by
  unfold Machine.setupRace
  split
  · exact h.changeRace _ _
  all_goals exact h

theorem PairingLaw.writeSegment (h : PairingLaw s) (body : List Byte) : PairingLaw (writeSegment body s).1 := by
  unfold Machine.writeSegment
  split
  · dsimp only
    split
    · exact mapWrite_keeps h fun _ _ => (h.withMap _).mapWriteEffects
    · exact mapWrite_keeps h fun _ _ => h
  · exact h

theorem PairingLaw.writeSwitch (h : PairingLaw s) (body : List Byte) : PairingLaw (writeSwitch body s).1 := by
  unfold Machine.writeSwitch
  split
  · dsimp only
    split
    · exact mapWrite_keeps h fun _ _ => 
        ((h.withMap _).mapWriteEffects.used (followSwitchUse_useFootprint _ _ _ _)).wakeLoop
    · exact mapWrite_keeps h fun _ _ => h
  · exact h

theorem PairingLaw.writeGate (h : PairingLaw s) (body : List Byte) : PairingLaw (writeGate body s).1 := by
  unfold Machine.writeGate
  split
  · dsimp only
    split
    · exact mapWrite_keeps h fun _ _ => ((h.withMap _).mapWriteEffects.followGateUse _ _ _).wakeLoop
    · exact mapWrite_keeps h fun _ _ => h
  · exact h

theorem PairingLaw.setPairingGate (h : PairingLaw s) (body : List Byte) : PairingLaw (setPairingGate body s).1 := by
  unfold Machine.setPairingGate
  split
  · exact mapWrite_keeps h fun _ _ => (h.withMap _).mapWriteEffects
  · exact h

theorem PairingLaw.writeProfile (h : PairingLaw s) (body : List Byte) : PairingLaw (writeProfile body s).1 := by
  unfold Machine.writeProfile
  split
  · dsimp only
    split
    · exact h
    · split
      · exact h
      · split
        · split
          · exact h.storeProfile _ _
          · exact h
        · exact h
  · exact h

theorem PairingLaw.writeCalibration (h : PairingLaw s) (body : List Byte) :
    PairingLaw (writeCalibration body s).1 := by
  unfold Machine.writeCalibration
  split
  · dsimp only
    split
    · exact h
    · split
      · split
        · exact h.congr (modifyHandset_pairings _ _ _ fun _ => rfl)
        · exact h
      · exact h
  · exact h

theorem PairingLaw.setScan (h : PairingLaw s) (body : List Byte) : PairingLaw (setScan body s).1 := by
  unfold Machine.setScan
  split
  · split
    · exact h
    · split
      · exact h
      · exact h.congr (applyScan_pairings ..)
  · exact h

/-- BIND binds only a handset without a car, and a free, enabled car (R74). -/
theorem PairingLaw.bindPair (h : PairingLaw s) (n : HandsetNo) (c : CarNo) : PairingLaw (bindPair n c s).1 := by
  unfold Machine.bindPair
  split
  · exact h
  · split
    · exact h
    · next conflict =>
      split
      · exact h
      · next disabled =>
        obtain ⟨free, unbound⟩ := not_or.mp (Bool.or_eq_true_iff.not.mp conflict)
        refine h.makeBinding_leaveQueue (fun d bound => free ?_) ?_ (by simpa using disabled) _
        · rw [bound]
          rfl
        · exact Option.not_isSome_iff_eq_none.mp unbound

theorem PairingLaw.unbindHandset (h : PairingLaw s) (n : HandsetNo) : PairingLaw (unbindHandset n s).1 := by
  unfold Machine.unbindHandset
  split
  · exact h
  · split
    · next c bound => exact h.dissolve bound _
    · next seeking => exact (h.leaveQueue_idle seeking).congr rfl
    · exact h

theorem PairingLaw.bindRequest (h : PairingLaw s) (body : List Byte) : PairingLaw (bindRequest body s).1 := by
  unfold Machine.bindRequest
  split
  · split
    · exact h.bindPair _ _
    · exact h
  · exact h

theorem PairingLaw.unbindRequest (h : PairingLaw s) (body : List Byte) : PairingLaw (unbindRequest body s).1 := by
  unfold Machine.unbindRequest
  split
  · split
    · exact h.unbindHandset _
    · exact h
  · exact h

/-- The requests about events, settings, frames and raw values touch no pairing. -/
theorem PairingLaw.settings (h : PairingLaw s) (p : Port) (body : List Byte) :
    PairingLaw (setMask p body s).1 ∧ PairingLaw (clearFlags p body s).1 ∧ PairingLaw (readRaw body s).1 ∧
      PairingLaw (fetchFrame s).1 ∧ PairingLaw (setCycleTrim body s).1 ∧ PairingLaw (setLimits body s).1 := by
  refine ⟨?mask, ?flags, ?raw, ?frame, ?trim, ?limits⟩
  case mask =>
    unfold setMask
    split
    · exact h.congr rfl
    · exact h
  case flags =>
    unfold clearFlags
    split
    · exact h.congr rfl
    · exact h
  case raw =>
    unfold readRaw
    split
    · split
      · exact h.congr rfl
      · exact h
    · exact h
  case frame =>
    unfold fetchFrame
    split
    · exact h
    · exact h.congr rfl
  case trim =>
    unfold setCycleTrim
    split
    · split
      · exact h
      · split
        · exact h
        · exact h.congr rfl
    · exact h
  case limits =>
    unfold setLimits
    split
    · dsimp only
      split
      · exact h
      · split
        · exact h
        · split
          · exact h
          · exact h.congr rfl
    · exact h

/-- Every request's owner keeps the law. -/
theorem PairingLaw.owner (h : PairingLaw s) (p : Port) (x : Request) (body : List Byte) :
    PairingLaw (ownerOf p x body s).1 := by
  obtain ⟨mask, flags, raw, frame, trim, limits⟩ := h.settings p body
  have switched {act : SwitchNo → State → State × Reply} (e : ∀ j, SwitchFootprint s (act j s).1) :
      PairingLaw (switchRequest act body s).1 := switchRequest_keeps h fun j => h.congr (e j).pairings
  cases x with
  | identify | status | badTarget | readPairing => exact h
  | readEvents | clearQueue => exact h.congr rfl
  | setEventMask => exact mask
  | clearFlags => exact flags
  | start => exact h.startRace
  | caution => exact h.cautionRace
  | clearCaution => exact h.clearCautionRace
  | halt => exact h.haltRequest
  | resume => exact h.resumeRace
  | setup => exact h.setupRace
  | railFault => exact h.congr (takeRailFault_pairings s)
  | railClear =>
    dsimp only [ownerOf]
    unfold clearRail
    split
    · exact h.congr rfl
    · exact h
  | writeSegment => exact h.writeSegment body
  | readSegment => exact (readSegment_state body s).symm ▸ h
  | writeSwitch => exact h.writeSwitch body
  | readSwitch => exact (readSwitch_state body s).symm ▸ h
  | writeGate => exact h.writeGate body
  | readGate => exact (readGate_state body s).symm ▸ h
  | setPairingGate => exact h.setPairingGate body
  | validateMap =>
    dsimp only [ownerOf]
    unfold validateMap
    split
    · exact h
    · exact h.validated _
  | writeProfile => exact h.writeProfile body
  | readCar => exact (readCar_state body s).symm ▸ h
  | writeCalibration => exact h.writeCalibration body
  | setScan => exact h.setScan body
  | readRaw => exact raw
  | readHandset => exact (readHandset_state body s).symm ▸ h
  | postSamples => exact h.congr (takeSamples_pairings s body.tail)
  | bind => exact h.bindRequest body
  | unbind => exact h.unbindRequest body
  | lockSwitch => exact switched fun j => lockSwitch_switchFootprint j s
  | unlockSwitch => exact switched fun j => unlockSwitch_switchFootprint j s
  | clearSwitch => exact switched fun j => clearSwitch_switchFootprint j s
  | readNode => exact (readNode_state body s).symm ▸ h
  | fetchFrame => exact frame
  | setCycleTrim => exact trim
  | setLimits => exact limits
  | saveImage | loadImage => exact storeRequest_keeps h (h.congr rfl)
  | restart =>
    dsimp only [ownerOf]
    unfold acceptRestart
    split
    · exact h
    · exact h.congr rfl

end Owners

/-! ### Commands -/

/-- A seek timer's entry is one of the queue, so its handset is SEEKING (R63). -/
theorem PairingLaw.seeking_of_seekOf {s : State} (h : PairingLaw s) {n : HandsetNo} {e : Seek}
    (queued : seekOf n s = some e) : s.handsets[n].pairing = .seeking := by
  have own : e.handset = n := by simpa using List.find?_some queued
  exact (h.queued n).mp (List.mem_map.mpr ⟨e, List.mem_of_find?_eq_some queued, own⟩)

theorem pairingLaw_powerOn (x : Straps) (s : State) : PairingLaw (powerOn x s) := pairingLaw_reset.congr rfl

/-- Every command keeps the law. -/
theorem PairingLaw.command (i : Instr) (s t : State) (h : PairingLaw s) (e : exec i s = .next t) :
    PairingLaw t := by
  have port (p : Port) (f : PortState → PortState) (u : State) (k : PairingLaw u) :
      PairingLaw (u.modifyPort p f) := k.congr rfl
  have reply (p : Port) (status : Byte) (body : List Byte) (u : State) (k : PairingLaw u) :
      PairingLaw (withReply p status body u) := port p _ u k
  have handset (n : HandsetNo) (f : Handset → Handset) (kept : ∀ r, (f r).pairing = r.pairing) :
      PairingLaw (s.modifyHandset n f) := h.congr (modifyHandset_pairings s n f kept)
  have car (c : CarNo) (f : Car → Car) (kept : ∀ r, (f r).binding = r.binding ∧ (f r).profile = r.profile) :
      PairingLaw (s.modifyCar c f) := h.congr (modifyCar_pairings s c f kept)
  cases i using instr_rowCases with
  | request x p =>
    rw [exec_request] at e
    exact serve_keeps e h (reply p) fun body => h.owner p x body
  | chipSelectFall p =>
    dsimp only [exec, execChipSelectFall] at e
    exact whenRunning_keeps e h fun _ => port p _ s h
  | chipSelectRise p =>
    exact whenRunning_keeps e h fun _ =>
      raiseSelect_keeps h (port p) (fun x body => h.owner p x body) pairingLaw_powerOn
  | unknownRequest p => exact serveUnknown_keeps e h (reply p)
  | masterSendsByte p b =>
    exact whenRunning_keeps e h fun _ => clockPort_keeps h (port p) fun x body => h.owner p x body
  | resetPinAssert =>
    obtain rfl := Host.Outcome.next.inj e
    exact h.congr rfl
  | powerOnReset x =>
    obtain rfl := Host.Outcome.next.inj e
    exact pairingLaw_powerOn x s
  | intervalTimerExpiry =>
    dsimp only [exec, execIntervalTimerExpiry] at e
    refine whenRunning_keeps e h fun _ => ?_
    split
    · exact h.congr rfl
    · exact h
  | roundResult ch raw pressed =>
    dsimp only [exec, execRoundResult] at e
    refine whenRunning_keeps e h fun _ => ?_
    split
    · exact h
    · split
      · exact h.congr (takeWiredResult_pairings ..)
      · exact h
  | holdEnd n =>
    dsimp only [exec, execHoldEnd] at e
    refine whenRunning_keeps e h fun _ => ?_
    split
    · exact handset n _ fun _ => rfl
    · exact h
  | lostTime n =>
    dsimp only [exec, execLostTime] at e
    refine whenRunning_keeps e h fun _ => ?_
    split
    · exact (handset n (fun r => { r with lostTime := none, presence := .lost }) fun _ => rfl).congr rfl
    · exact h
  | holdTimerExpiry n =>
    dsimp only [exec, execHoldTimerExpiry] at e
    refine whenRunning_keeps e h fun _ => ?_
    split
    · exact (handset n (fun r => { r with holdTimer := none }) fun _ => rfl).seekRequest n
    · exact h
  | seekTimerExpiry n =>
    dsimp only [exec, execSeekTimerExpiry] at e
    refine whenRunning_keeps e h fun _ => ?_
    split
    · exact h
    · next queued =>
      split
      · exact (h.leaveQueue_idle (h.seeking_of_seekOf queued)).congr rfl
      · exact h
  | intentExpiry c =>
    dsimp only [exec, execIntentExpiry] at e
    refine whenRunning_keeps e h fun _ => ?_
    split
    · exact car c _ fun _ => ⟨rfl, rfl⟩
    · exact h
  | ageExpiry c =>
    dsimp only [exec, execAgeExpiry] at e
    refine whenRunning_keeps e h fun _ => ?_
    split
    · exact car c _ fun _ => ⟨rfl, rfl⟩
    · exact h
  | staleExpiry j c =>
    dsimp only [exec, execStaleExpiry] at e
    refine whenRunning_keeps e h fun _ => ?_
    split
    · exact h
    · exact h.congr (returnIfEmpty_switchFootprint j _).pairings
  | deadlineExpiry j =>
    dsimp only [exec, execDeadlineExpiry] at e
    refine whenRunning_keeps e h fun _ => ?_
    split
    · exact h.congr (enterFault_switchFootprint j _ s).pairings
    · exact h
  | cycleEnd =>
    dsimp only [exec, execCycleEnd] at e
    refine whenRunning_keeps e h fun _ => ?_
    split
    · exact h.congr (publishFrame_pairings s)
    · exact h
  | pollSent =>
    dsimp only [exec, execPollSent] at e
    refine whenRunning_keeps e h fun _ => ?_
    split
    · exact h
    · split
      · exact h.congr rfl
      · exact h
  | replyReceived r =>
    dsimp only [exec, execReplyReceived] at e
    refine whenRunning_keeps e h fun _ => ?_
    split
    · exact h
    · split
      · refine h.endExchange _ ?_
        split
        · exact h.congr (takeMiss_pairings ..)
        · exact h.takeReply _ r
      · exact h
  | replyTimeout =>
    dsimp only [exec, execReplyTimeout] at e
    refine whenRunning_keeps e h fun _ => ?_
    split
    · exact h
    · split
      · exact h.endExchange _ (h.congr (takeMiss_pairings ..))
      · exact h
  | saveWriteConfirm =>
    dsimp only [exec, execSaveWriteConfirm] at e
    refine whenRunning_keeps e h fun _ => ?_
    split
    · rw [confirmWrite_footprint]
      exact h.congr rfl
    all_goals exact h
  | saveWriteTimeout =>
    dsimp only [exec, execSaveWriteTimeout] at e
    refine whenRunning_keeps e h fun _ => ?_
    split
    · split
      · exact h.congr rfl
      · exact h
    all_goals exact h
  | loadComplete =>
    dsimp only [exec, execLoadComplete] at e
    refine whenRunning_keeps e h fun _ => ?_
    split
    · exact h.completeLoad
    all_goals exact h

/-- Settles O41: every command keeps the law, and so do the queue, the choices and the passing of time. -/
theorem pairingLawKept : Obligations.PairingLawKept :=
  keptByEveryStep_of_exec PairingLaw.command (fun _ _ h => h.congr rfl) (fun _ _ h => h.congr rfl)
    fun _ h => h.congr rfl

end Sys2Proof.Machine
end

section
/-!
O40. BIND and UNBIND by R74's and R75's tests, each answer read off the owner, and the gate's binding of the queue's
head. The two operations they share, a binding made as its handset leaves the queue and a seek cancelled, are one
change of the state each.
-/

namespace Sys2Proof.Machine

/-! ### PRU's operations as one change of the state -/

section Changes

variable (h : HandsetNo) (c : CarNo) (s : State)

/-- The queue without a handset, by the handset's number. -/
theorem filter_handset_val (l : List Seek) :
    (l.filter fun e => e.handset.val != h.val) = l.filter fun e => e.handset != h :=
  List.filter_congr fun e _ => by simp [bne, Fin.ext_iff]

theorem makeBinding_leaveQueue_eq (source : BindSource) : makeBinding h c source (leaveQueue h s) =
    raise (.bound h c source) { s with
      seeks := s.seeks.filter fun e => e.handset != h
      handsets := s.handsets.set h { s.handsets[h] with pairing := .bound c }
      cars := s.cars.set c { s.cars[c] with binding := some h } } := rfl

theorem dissolve_eq (cause : UnbindCause) : dissolve h c cause s = raise (.unbound h (some c) cause) { s with
    handsets := s.handsets.set h { s.handsets[h] with pairing := .idle }
    cars := s.cars.set c { s.cars[c] with binding := none, intent := none } } := rfl

theorem cancelSeek_eq : cancelSeek h s = raise (.unbound h none .console) { s with
    seeks := s.seeks.filter fun e => e.handset != h
    handsets := s.handsets.set h { s.handsets[h] with pairing := .idle } } := rfl

end Changes

/-! ### BIND (R74) -/

section Bind

variable {n k : Nat} {s : State}

theorem bindRequest_above (hn : n ≤ 255) (hk : k ≤ 255) (above : 16 ≤ n ∨ 12 ≤ k) :
    bindRequest [byte n, byte k] s = refuse .range s := by
  obtain handset | car := above
  · simp only [bindRequest, numbered_none hn handset]
  · simp only [bindRequest, numbered_none hk car]
    cases numbered 16 (byte n) <;> rfl

theorem bindRequest_inTable (hn : n < 16) (hk : k < 12) :
    bindRequest [byte n, byte k] s = bindPair ⟨n, hn⟩ ⟨k, hk⟩ s := by
  simp only [bindRequest, numbered_byte (show 16 ≤ 256 by decide) hn, numbered_byte (show 12 ≤ 256 by decide) hk]

theorem exec_bind {t : State} {r : Reply} (frame : FrameEnded .console 0x50 [byte n, byte k] s)
    (answer : bindRequest [byte n, byte k] s = (t, r)) :
    exec (.bind .console) s = .next (withReply .console r.status.code r.body t) :=
  exec_owner (x := .bind) frame rfl rfl rfl rfl answer

variable {h : HandsetNo} {c : CarNo}

theorem bindPair_busy (busy : s.store ≠ .idle) : bindPair h c s = refuse .busy s :=
  if_pos (storeBusy_eq_true.mpr busy)

/-- R74's tests after BUSY: a holder on either side is a conflict, and then the car must be enabled. -/
theorem bindPair_idle (idle : s.store = .idle) : bindPair h c s =
    if s.handsets[h].pairing.car ≠ none ∨ s.cars[c].binding ≠ none then
      (s, ⟨.conflict,
        [byteOrNone (s.handsets[h].pairing.car.map Fin.val), byteOrNone (s.cars[c].binding.map Fin.val)]⟩)
    else if s.cars[c].profile.enabled = false then refuse .range s
    else accept (makeBinding h c .console (leaveQueue h s)) := by
  unfold bindPair
  rw [storeBusy_eq_false.mpr idle]
  simp only [Bool.or_eq_true, Option.isSome_iff_ne_none, Bool.not_eq_true', carNumber]
  rfl

theorem bindPair_held (idle : s.store = .idle) (held : s.handsets[h].pairing.car ≠ none ∨ s.cars[c].binding ≠ none) :
    bindPair h c s = (s, ⟨.conflict,
      [byteOrNone (s.handsets[h].pairing.car.map Fin.val), byteOrNone (s.cars[c].binding.map Fin.val)]⟩) :=
  (bindPair_idle idle).trans (if_pos held)

theorem bindPair_disabled (idle : s.store = .idle) (free : s.handsets[h].pairing.car = none)
    (unbound : s.cars[c].binding = none) (disabled : s.cars[c].profile.enabled = false) :
    bindPair h c s = refuse .range s := by
  have unheld := not_or.mpr ⟨not_not_intro free, not_not_intro unbound⟩
  rw [bindPair_idle idle, if_neg unheld, if_pos disabled]

theorem bindPair_free (idle : s.store = .idle) (free : s.handsets[h].pairing.car = none)
    (unbound : s.cars[c].binding = none) (enabled : s.cars[c].profile.enabled = true) :
    bindPair h c s = accept (makeBinding h c .console (leaveQueue h s)) := by
  have unheld := not_or.mpr ⟨not_not_intro free, not_not_intro unbound⟩
  rw [bindPair_idle idle, if_neg unheld, if_neg (Bool.not_eq_false _ ▸ enabled)]

end Bind

/-! ### UNBIND (R75) -/

section Unbind

variable {n : Nat} {s : State}

theorem unbindRequest_above (hn : n ≤ 255) (above : 16 ≤ n) : unbindRequest [byte n] s = refuse .range s := by
  simp only [unbindRequest, numbered_none hn above]

theorem unbindRequest_inTable (hn : n < 16) : unbindRequest [byte n] s = unbindHandset ⟨n, hn⟩ s := by
  simp only [unbindRequest, numbered_byte (show 16 ≤ 256 by decide) hn]

theorem exec_unbind {t : State} {r : Reply} (frame : FrameEnded .console 0x51 [byte n] s)
    (answer : unbindRequest [byte n] s = (t, r)) :
    exec (.unbind .console) s = .next (withReply .console r.status.code r.body t) :=
  exec_owner (x := .unbind) frame rfl rfl rfl rfl answer

variable {h : HandsetNo}

theorem unbindHandset_busy (busy : s.store ≠ .idle) : unbindHandset h s = refuse .busy s :=
  if_pos (storeBusy_eq_true.mpr busy)

theorem unbindHandset_idle (idle : s.store = .idle) (unpaired : s.handsets[h].pairing = .idle) :
    unbindHandset h s = (s, Reply.bare .noChange) := by
  unfold unbindHandset
  rw [storeBusy_eq_false.mpr idle, unpaired]
  rfl

theorem unbindHandset_seeking (idle : s.store = .idle) (seeking : s.handsets[h].pairing = .seeking) :
    unbindHandset h s = accept (cancelSeek h s) := by
  unfold unbindHandset
  rw [storeBusy_eq_false.mpr idle, seeking]
  rfl

theorem unbindHandset_bound {c : CarNo} (idle : s.store = .idle) (bound : s.handsets[h].pairing = .bound c) :
    unbindHandset h s = accept (dissolve h c .console s) := by
  unfold unbindHandset
  rw [storeBusy_eq_false.mpr idle, bound]
  rfl

end Unbind

/-! ### The pairing gate (R71, R72) -/

section Gate

variable {c : CarNo} {s : State}

theorem pairingGateDetection_ignored (ignored : s.seeks = [] ∨ s.cars[c].binding ≠ none ∨ s.store ≠ .idle) :
    pairingGateDetection c s = s := by
  unfold pairingGateDetection
  split
  · rfl
  · next e rest queue =>
    refine if_neg fun taken => ?_
    obtain ⟨unbound, ready⟩ := Bool.and_eq_true_iff.mp taken
    obtain empty | bound | busy := ignored
    · simp [queue] at empty
    · exact bound (Option.isNone_iff_eq_none.mp unbound)
    · exact busy (storeBusy_eq_false.mp (by simpa using ready))

theorem pairingGateDetection_binds {e : Seek} {rest : List Seek} (queue : s.seeks = e :: rest)
    (unbound : s.cars[c].binding = none) (idle : s.store = .idle) :
    pairingGateDetection c s = makeBinding e.handset c .gate (leaveQueue e.handset s) := by
  unfold pairingGateDetection
  rw [queue, unbound, storeBusy_eq_false.mpr idle]
  rfl

end Gate

/-- Settles O40: each request by its tests in their order and the change of state they lead to, and the gate by what
the queue, the car and SSI are found to be. -/
theorem bindAndUnbind : Obligations.BindAndUnbind := by
  intro s
  refine ⟨fun n k hn hk frame => ⟨fun above => ?_, fun inN inK => ?bind⟩,
    fun n hn frame => ⟨fun above => ?_, fun inN => ?unbind⟩,
    fun c => ⟨pairingGateDetection_ignored, fun e rest queue unbound idle => ?gate⟩⟩
  · exact exec_bind frame (bindRequest_above hn hk above)
  case bind =>
    have answer {r : State × Reply} (e : bindPair ⟨n, inN⟩ ⟨k, inK⟩ s = r) :=
      exec_bind frame ((bindRequest_inTable inN inK).trans e)
    refine ⟨fun busy => answer (bindPair_busy busy), fun idle => ⟨fun held => answer (bindPair_held idle held),
      fun free unbound => ⟨fun disabled => answer (bindPair_disabled idle free unbound disabled),
        fun enabled => ?_⟩⟩⟩
    refine (answer (bindPair_free idle free unbound enabled)).trans ?_
    rw [makeBinding_leaveQueue_eq, ← filter_handset_val]
    rfl
  · exact exec_unbind frame (unbindRequest_above hn above)
  case unbind =>
    have answer {r : State × Reply} (e : unbindHandset ⟨n, inN⟩ s = r) :=
      exec_unbind frame ((unbindRequest_inTable inN).trans e)
    refine ⟨fun busy => answer (unbindHandset_busy busy), fun idle =>
      ⟨fun unpaired => answer (unbindHandset_idle idle unpaired), fun seeking => ?_,
        fun c bound => answer (unbindHandset_bound idle bound)⟩⟩
    refine (answer (unbindHandset_seeking idle seeking)).trans ?_
    rw [cancelSeek_eq, ← filter_handset_val]
    rfl
  case gate =>
    rw [pairingGateDetection_binds queue unbound idle, makeBinding_leaveQueue_eq, queue]

end Sys2Proof.Machine
end

section
/-!
LCA and SWC at one switch and at many. What a command, a return request and a removal from a reservation list leave,
each in one equation; and what removals at distinct switches, taken one after another, come to: each list, each
switch and the urgent list follow from the state that the first of them found.
-/

namespace Sys2Proof.Machine

/-! ### One switch's record and list replaced -/

section Requests

variable (j : SwitchNo) (s : State)

/-- A command sets the position, the deadline and the place on the urgent list (R112). -/
theorem commandPosition_eq (x : Position) : commandPosition j x s = { s with
    switches := s.switches.set j { s.switches[j] with
      commanded := x, deadline := some (later s.clock ((s.map.switch j).actuation + 200)) }
    loop := { s.loop with urgent := if j ∈ s.loop.urgent then s.loop.urgent else s.loop.urgent ++ [j] } } := by
  unfold commandPosition
  rw [joinUrgent_eq]
  rfl

/-- A change of state is a change of one record, told by SW_STATE (R110, R127). -/
theorem changeState_eq (x : SwitchState) (cause : SwitchCause) : changeState j x cause s =
    raise (.switchState j s.switches[j].state x cause s.switches[j].confirmed) { s with
      switches := s.switches.set j { s.switches[j] with
        state := x
        throwCount := if x = .throwing then bump 65535 s.switches[j].throwCount else s.switches[j].throwCount
        faultCount := if x = .fault then bump 255 s.switches[j].faultCount else s.switches[j].faultCount } } := rfl

/-- The record of a switch that has taken a return request: RETURNING, STRAIGHT commanded, a new deadline (R114). -/
def returning : SwitchRun := { s.switches[j] with
  state := .returning, commanded := .straight
  deadline := some (later s.clock ((s.map.switch j).actuation + 200)) }

/-- A return request acts at a switch that is THROWN or THROWING (R114). -/
def returns : Bool := s.switches[j].state == .thrown || s.switches[j].state == .throwing

variable {j s}

theorem returns_iff : returns j s = true ↔ s.switches[j].state = .thrown ∨ s.switches[j].state = .throwing := by
  simp [returns]

theorem returnRequest_taken (h : returns j s = true) : returnRequest j s =
    raise (.switchState j s.switches[j].state .returning .returnOrder s.switches[j].confirmed) { s with
      switches := s.switches.set j (returning j s)
      loop := { s.loop with urgent := if j ∈ s.loop.urgent then s.loop.urgent else s.loop.urgent ++ [j] } } := by
  have taken : returnRequest j s = changeState j .returning .returnOrder (commandPosition j .straight s) := by
    unfold returnRequest
    obtain thrown | throwing := returns_iff.mp h
    · rw [thrown]
    · rw [throwing]
  rw [taken, commandPosition_eq, changeState_eq]
  simp [returning]

theorem returnRequest_ignored (h : returns j s = false) : returnRequest j s = s := by
  unfold returnRequest
  split
  · next thrown => rw [returns_iff.mpr (.inl thrown)] at h; cases h
  · next throwing => rw [returns_iff.mpr (.inr throwing)] at h; cases h
  all_goals rfl

end Requests

/-! ### Removals at many switches -/

/-- A removal that keeps `left` of a list empties switch `j`'s list, and finds the switch to be returned. -/
def emptiedAt (left : List Reservation → List Reservation) (s : State) (j : SwitchNo) : Bool :=
  !s.lists[j].isEmpty && (left s.lists[j]).isEmpty && returns j s

/-- From `s` to `t` the lists of the switches `js` are cut down to what `left` keeps of them, and each switch whose
list this empties takes a return request, in the order of `js` (R84, R101, R105). -/
structure Removes (left : List Reservation → List Reservation) (js : List SwitchNo) (s t : State) : Prop where
  lists : ∀ j : SwitchNo, t.lists[j] = if j ∈ js then left s.lists[j] else s.lists[j]
  switches : ∀ j : SwitchNo,
    t.switches[j] = if j ∈ js ∧ emptiedAt left s j = true then returning j s else s.switches[j]
  urgent : t.loop.urgent =
    s.loop.urgent ++ js.filter fun j => emptiedAt left s j && decide (j ∉ s.loop.urgent)
  footprint : SwitchFootprint s t

section Removals

variable {left : List Reservation → List Reservation} {s t u : State}

theorem Removes.refl (s : State) : Removes left [] s s :=
  ⟨fun _ => by simp, fun _ => by simp, by simp, .refl s⟩

theorem SwitchFootprint.clock_eq (h : SwitchFootprint s t) : t.clock = s.clock := by rw [h]

/-- What a removal at a switch finds there is not moved by removals at others. -/
theorem Removes.elsewhere {js : List SwitchNo} (h : Removes left js s t) {j : SwitchNo} (hj : j ∉ js) :
    t.lists[j] = s.lists[j] ∧ t.switches[j] = s.switches[j] ∧ returning j t = returning j s ∧
      emptiedAt left t j = emptiedAt left s j := by
  have list : t.lists[j] = s.lists[j] := by rw [h.lists, if_neg hj]
  have switch : t.switches[j] = s.switches[j] := by rw [h.switches, if_neg fun ⟨m, _⟩ => hj m]
  refine ⟨list, switch, ?_, ?_⟩
  · unfold returning
    rw [switch, h.footprint.clock_eq, h.footprint.map_eq]
  · unfold emptiedAt returns
    rw [list, switch]

/-- Removals at further switches, taken after those at the first, are removals at all of them. -/
theorem Removes.append {js ks : List SwitchNo} (h : Removes left js s t) (k : Removes left ks t u)
    (apart : ∀ j ∈ ks, j ∉ js) : Removes left (js ++ ks) s u where
  lists j := by
    rw [k.lists]
    by_cases later : j ∈ ks
    · rw [(h.elsewhere (apart j later)).1]
      simp [later]
    · rw [h.lists]
      simp [later]
  switches j := by
    rw [k.switches]
    by_cases later : j ∈ ks
    · obtain ⟨-, switch, record, emptied⟩ := h.elsewhere (apart j later)
      rw [switch, record, emptied]
      simp [later]
    · rw [h.switches]
      simp [later]
  urgent := by
    have behind : ks.filter (fun j => emptiedAt left t j && decide (j ∉ t.loop.urgent)) =
        ks.filter fun j => emptiedAt left s j && decide (j ∉ s.loop.urgent) := by
      refine List.filter_congr fun j later => ?_
      rw [(h.elsewhere (apart j later)).2.2.2, h.urgent]
      simp [apart j later]
    rw [k.urgent, behind, h.urgent, List.filter_append, List.append_assoc]
  footprint := h.footprint.trans k.footprint

/-- A fold of removals over distinct switches removes at each of them. -/
theorem foldl_removes (op : State → SwitchNo → State) (step : ∀ s j, Removes left [j] s (op s j))
    (js : List SwitchNo) (once : js.Nodup) (s : State) : Removes left js s (js.foldl op s) := by
  induction js generalizing s with
  | nil => exact .refl s
  | cons j js ih =>
    obtain ⟨new, once⟩ := List.nodup_cons.mp once
    exact (step s j).append (ih once (op s j)) fun i hi same => new (List.mem_singleton.mp same ▸ hi)

/-! ### One removal -/

/-- A list cut down, with whatever is told of it, and then the return request for a list left empty. -/
theorem removes_returnIfEmpty {j : SwitchNo} (list : s.lists[j] ≠ []) (cut : SwitchFootprint s u)
    (lists : u.lists = s.lists.set j (left s.lists[j])) (switches : u.switches = s.switches)
    (urgent : u.loop.urgent = s.loop.urgent) : Removes left [j] s (returnIfEmpty j u) := by
  have at_j : u.lists[j] = left s.lists[j] := by simp [lists]
  have other (i : SwitchNo) (hi : i ≠ j) : u.lists[i] = s.lists[i] := by
    have := update_other s.lists (i := j) (fun _ => left s.lists[j]) hi
    rwa [update_eq_set, ← lists] at this
  have found : returns j u = returns j s := by unfold returns; rw [switches]
  have record : returning j u = returning j s := by
    unfold returning
    rw [switches, cut.clock_eq, cut.map_eq]
  have listOf (i : SwitchNo) : u.lists[i] = if i ∈ [j] then left s.lists[i] else s.lists[i] := by
    by_cases hi : i = j
    · subst hi; simpa using at_j
    · simpa [hi] using other i hi
  by_cases acts : emptiedAt left s j = true
  · obtain ⟨⟨-, empty⟩, back⟩ : (_ ∧ (left s.lists[j]).isEmpty = true) ∧ returns j s = true := by
      simpa [emptiedAt, and_assoc] using acts
    have result : returnIfEmpty j u = returnRequest j u := if_pos (by rw [at_j]; exact empty)
    rw [result, returnRequest_taken (found.trans back), record, urgent]
    refine ⟨listOf, fun i => ?_, ?_, cut.trans (by rw [urgent.symm]; rfl)⟩
    · show (u.switches.set j (returning j s))[i] = _
      rw [switches]
      have changed := update_get s.switches j i fun _ => returning j s
      rw [update_eq_set] at changed
      rw [changed]
      by_cases hi : i = j
      · subst hi; simp [acts]
      · simp [hi]
    · show (if j ∈ s.loop.urgent then s.loop.urgent else s.loop.urgent ++ [j]) = _
      by_cases on : j ∈ s.loop.urgent <;> simp [on, acts]
  · have result : returnIfEmpty j u = u := by
      unfold returnIfEmpty
      split
      · next empty =>
        refine returnRequest_ignored (found.trans ?_)
        rw [at_j] at empty
        simpa [emptiedAt, list, empty, -Fin.getElem_fin] using acts
      · rfl
    rw [result]
    refine ⟨listOf, fun i => ?_, ?_, cut⟩
    · rw [switches]
      by_cases hi : i = j
      · subst hi; simp [acts]
      · simp [hi]
    · rw [urgent]
      simp [acts]

/-- Where nothing is taken out of a list, nothing happens at its switch. -/
theorem removes_nothing {j : SwitchNo} (whole : left s.lists[j] = s.lists[j]) : Removes left [j] s s := by
  have idle : emptiedAt left s j = false := by
    unfold emptiedAt
    rw [whole]
    cases s.lists[j].isEmpty <;> rfl
  refine ⟨fun i => ?_, fun i => ?_, by simp [idle], .refl s⟩
  · by_cases hi : i = j
    · subst hi; simp [whole, -Fin.getElem_fin]
    · simp [hi]
  · by_cases hi : i = j
    · subst hi; simp [idle]
    · simp [hi]

end Removals

/-! ### Revocation (R104, R105) -/

/-- The state that the REVOKED records of a list leave. -/
def tellRevoked (cause : RevokeCause) (j : SwitchNo) (l : List Reservation) (s : State) : State :=
  l.foldl (fun s e => raise (.revoked e.car j cause) s) s

theorem tellRevoked_footprint (cause : RevokeCause) (j : SwitchNo) (l : List Reservation) (s : State) :
    tellRevoked cause j l s = { s with events := (tellRevoked cause j l s).events } :=
  foldl_keeps (fun s t => t = { s with events := t.events }) (fun _ => rfl) (fun h k => by rw [k, h]) _
    (fun _ _ => rfl) l s

theorem revokeList_nil {j : SwitchNo} {s : State} (cause : RevokeCause) (h : s.lists[j] = []) :
    revokeList cause j s = s := by
  unfold revokeList
  rw [h]

theorem revokeList_cons {j : SwitchNo} {s : State} {e : Reservation} {es : List Reservation}
    (cause : RevokeCause) (h : s.lists[j] = e :: es) :
    revokeList cause j s = returnRequest j (tellRevoked cause j (e :: es) (s.setList j [])) := by
  unfold revokeList
  rw [h]
  rfl

/-- Revoking a list is a removal of every entry. -/
theorem revokeList_removes (cause : RevokeCause) (j : SwitchNo) (s : State) :
    Removes (fun _ => []) [j] s (revokeList cause j s) := by
  cases list : s.lists[j] with
  | nil =>
    rw [revokeList_nil cause list]
    exact removes_nothing list.symm
  | cons e es =>
    have told := tellRevoked_footprint cause j (e :: es) (s.setList j [])
    have empty : returnIfEmpty j (tellRevoked cause j (e :: es) (s.setList j [])) =
        returnRequest j (tellRevoked cause j (e :: es) (s.setList j [])) :=
      if_pos (by rw [told]; simp [-Fin.getElem_fin])
    rw [revokeList_cons cause list, ← empty]
    refine removes_returnIfEmpty (by simp [list]) ?_ ?_ ?_ ?_
    · rw [told]; rfl
    · rw [told]; rfl
    · rw [told]; rfl
    · rw [told]; rfl

/-- A HALT's revocation removes every entry of every list. -/
theorem revokeAllLists_removes (s : State) : Removes (fun _ => []) switchNos s (revokeAllLists s) :=
  foldl_removes _ (fun s j => revokeList_removes .halt j s) switchNos switchNos_nodup s

/-! ### Superseding (R84) -/

theorem holdsEntry_iff {l : List Reservation} {k : CarNo} : holdsEntry l k = true ↔ ∃ e ∈ l, e.car = k := by
  simp [holdsEntry]

theorem withoutCar_of_not_holds {l : List Reservation} {k : CarNo} (h : ¬holdsEntry l k = true) :
    withoutCar l k = l := by
  refine List.filter_eq_self.mpr fun e he => ?_
  exact bne_iff_ne.mpr fun same => h (holdsEntry_iff.mpr ⟨e, he, same⟩)

theorem supersedeAt_removes (k : CarNo) (j : SwitchNo) (s : State) :
    Removes (withoutCar · k) [j] s (supersedeAt k j s) := by
  unfold supersedeAt
  split
  · next holds =>
    have some : s.lists[j] ≠ [] := fun empty => by simp [empty, holdsEntry] at holds
    exact removes_returnIfEmpty some rfl rfl rfl rfl
  · next holds => exact removes_nothing (withoutCar_of_not_holds holds)

/-- Superseding removes the car's entry from every list. -/
theorem supersede_removes (k : CarNo) (s : State) : Removes (withoutCar · k) switchNos s (supersede k s) :=
  foldl_removes _ (fun s j => supersedeAt_removes k j s) switchNos switchNos_nodup s

end Sys2Proof.Machine
end

section
/-!
What every command does to the track: the race state, the map, the reservation lists, the switches and the loop.
Most commands leave all five alone, and the others change them by a few operations. A law over the track that those
operations keep is kept by every command, and so by every step.
-/

namespace Sys2Proof.Machine

/-! ### The track -/

/-- The blocks that the laws of the track speak of. -/
structure Track where
  race : RaceState
  map : TrackMap
  lists : Vector (List Reservation) 24
  switches : Vector SwitchRun 24
  loop : Loop

/-- The track of the whole state. -/
def State.track (s : State) : Track :=
  { race := s.race, map := s.map, lists := s.lists, switches := s.switches, loop := s.loop }

theorem track_eq_iff {s t : State} : t.track = s.track ↔ t.race = s.race ∧ t.map = s.map ∧ t.lists = s.lists ∧
    t.switches = s.switches ∧ t.loop = s.loop := by
  simp [State.track]

/-! ### What leaves the track alone -/

section Outside

variable {s t : State}

theorem HandsetFootprint.track (e : HandsetFootprint s t) : t.track = s.track := by rw [e]; rfl

theorem PairingFootprint.track (e : PairingFootprint s t) : t.track = s.track := by rw [e]; rfl

theorem modifyCar_track (c : CarNo) (f : Car → Car) (s : State) : (s.modifyCar c f).track = s.track := rfl

theorem takeDetection_track (k : CarNo) (q : Sensor) (t : Time) (s : State) :
    (takeDetection k q t s).track = s.track := by
  rw [takeDetection_footprint]
  rfl

theorem pairingGateDetection_track (c : CarNo) (s : State) : (pairingGateDetection c s).track = s.track := by
  unfold pairingGateDetection
  split
  · rfl
  · split <;> rfl

theorem applyScan_track (setCode intervalCode : Nat) (s : State) :
    (applyScan setCode intervalCode s).track = s.track := by
  rw [applyScan_footprint]
  rfl

theorem confirmWrite_track (p : SaveProgress) (s : State) : (confirmWrite p s).track = s.track := by
  rw [confirmWrite_footprint]
  rfl

theorem storeProfile_track (c : CarNo) (p : Profile) (s : State) : (storeProfile c p s).track = s.track := by
  unfold storeProfile dissolveDisabled
  dsimp only
  split
  · rw [modifyCar_track]
    split
    · rw [(dissolve_pairingFootprint _ _ _ _).track, modifyCar_track]
    · exact modifyCar_track c _ s
  · exact modifyCar_track c _ s

theorem writeProfile_track (body : List Byte) (s : State) : (writeProfile body s).1.track = s.track := by
  unfold writeProfile
  split
  · dsimp only
    split
    · rfl
    · split
      · rfl
      · split
        · split
          · exact storeProfile_track _ _ s
          · rfl
        · rfl
  · rfl

theorem writeCalibration_track (body : List Byte) (s : State) : (writeCalibration body s).1.track = s.track := by
  unfold writeCalibration
  split
  · dsimp only
    split
    · rfl
    · split
      · split <;> rfl
      · rfl
  · rfl

theorem setScan_track (body : List Byte) (s : State) : (setScan body s).1.track = s.track := by
  unfold setScan
  split
  · split
    · rfl
    · split
      · rfl
      · exact applyScan_track _ _ s
  · rfl

theorem bindRequest_track (body : List Byte) (s : State) : (bindRequest body s).1.track = s.track := by
  unfold bindRequest bindPair
  split
  · split
    · split
      · rfl
      · split
        · rfl
        · split <;> rfl
    · rfl
  · rfl

theorem unbindRequest_track (body : List Byte) (s : State) : (unbindRequest body s).1.track = s.track := by
  unfold unbindRequest unbindHandset
  split
  · split
    · split
      · rfl
      · split <;> rfl
    · rfl
  · rfl

theorem setLimits_track (body : List Byte) (s : State) : (setLimits body s).1.track = s.track := by
  unfold setLimits
  split
  · dsimp only
    split
    · rfl
    · split
      · rfl
      · split <;> rfl
  · rfl

end Outside

/-! ### Nodes -/

theorem nodeSwitch_eq_some {a : NodeNo} {j : SwitchNo} (h : nodeSwitch a = some j) :
    a = switchNode j := by
  unfold nodeSwitch at h
  split at h
  · obtain rfl := Option.some.inj h
    rfl
  · cases h

/-- An answer moves a node between the states of the polled set (R137). -/
theorem NodeRecord.answered_unpolled (r : NodeRecord) (now : Time) :
    (r.answered now).1.state = .unpolled ↔ r.state = .unpolled := by
  unfold NodeRecord.answered
  cases state : r.state <;> dsimp only <;> (try split) <;> simp

/-- A miss moves a node between the states of the polled set (R137). -/
theorem NodeRecord.missed_unpolled (r : NodeRecord) (now : Time) :
    (r.missed now).1.state = .unpolled ↔ r.state = .unpolled := by
  unfold NodeRecord.missed
  cases state : r.state <;> dsimp only <;> (try split) <;> simp

/-! ### The operations on the track -/

/-- A change of a switch's record that moves its counts alone. -/
def CountsOnly (f : SwitchRun → SwitchRun) : Prop :=
  ∀ r, (f r).state = r.state ∧ (f r).commanded = r.commanded ∧ (f r).confirmed = r.confirmed ∧
    (f r).deadline = r.deadline

/-- The property `P` of a state is one of its track that every operation on the track keeps. `Polled` is what `P`
gives of the node of an exchange whose outcome counts, and of a switch with a pending deadline, and what the
operations at a node may rest on. -/
structure TrackKept (Polled : TrackMap → NodeNo → Prop) (P : State → Prop) : Prop where
  outside : ∀ {s t}, P s → t.track = s.track → P t
  powerOn : ∀ x s, P (powerOn x s)
  polledUsed : ∀ {m j}, (m.switch j).used = true → Polled m (switchNode j)
  polledExchange : ∀ {s x}, P s → s.loop.exchange = some x → x.discard = false → Polled s.map x.node
  polledDeadline : ∀ {s j}, P s → s.switches[j].deadline ≠ none → Polled s.map (switchNode j)
  runs : ∀ {s r}, P s → r = .run ∨ r = .caution → P { s with race := r }
  setsUp : ∀ {s}, P s → s.race = .halt → P { s with race := .setup }
  halts : ∀ {s u}, P s → u.track = { s.track with race := .halt } → P (revokeAllLists u)
  restarts : ∀ {s}, P s → s.race = .halt → P { s with lists := updateAll s.lists fun _ _ => [] }
  surveys : ∀ {s m}, P s → m.polled = s.map.polled → P { s with map := m }
  storesSwitch : ∀ {s} j r, P s → P (storeSwitch j r s)
  storesGate : ∀ {s} g r, P s → P (storeGate g r s)
  loads : ∀ {s} i, P s → P (applyLoad i s)
  shortens : ∀ {s u j l}, P s → l.Sublist s.lists[j] → u.track = (s.setList j l).track → P (returnIfEmpty j u)
  settles : ∀ {s k j t}, P s → s.race = .run → Polled s.map (switchNode j) → P (settle k j t s)
  counts : ∀ {s j f}, P s → CountsOnly f → P (s.modifySwitch j f)
  faults : ∀ {s j} cause, P s → Polled s.map (switchNode j) → P (enterFault j cause s)
  takesPosition : ∀ {s j} x, P s → Polled s.map (switchNode j) → P (takePosition j x s)
  locks : ∀ {s j}, P s → Polled s.map (switchNode j) → P (lockSwitch j s).1
  unlocks : ∀ {s j}, P s → Polled s.map (switchNode j) → P (unlockSwitch j s).1
  clears : ∀ {s j}, P s → Polled s.map (switchNode j) → P (clearSwitch j s).1
  stands : ∀ {s a f}, P s → (∀ r, (f r).state = .unpolled ↔ r.state = .unpolled) → P (s.modifyNode a f)
  sends : ∀ {s x t}, P s → s.loop.exchange = some x →
    P { s with loop := { s.loop with exchange := some { x with replyBy := t } } }
  moves : ∀ {s} x, P s → P (moveServed x s)
  arbitrates : ∀ {s}, P s → P (arbitrate s)

namespace TrackKept

variable {Polled : TrackMap → NodeNo → Prop} {P : State → Prop} (k : TrackKept Polled P) {s : State} (h : P s)

include k h

/-! ### Race states -/

theorem raised (e : Event) : P (raise e s) := k.outside h rfl

theorem haltRace (cause : RaceCause) : P (haltRace cause s) := k.halts h rfl

theorem takeRailFault : P (takeRailFault s) := by
  have held : P (raise (.railFault s.race)
      (flagAllPorts (fun f => { f with railFault := true }) { s with railHold := true })) := k.outside h rfl
  unfold Machine.takeRailFault
  dsimp only
  split
  · exact k.haltRace held .rail
  · exact k.haltRace held .rail
  · exact held
  · exact held

theorem startRace : P (startRace s).1 := by
  unfold Machine.startRace
  split
  · exact enterRun_keeps h (fun _ => k.outside h rfl) (k.outside (k.runs h (.inl rfl)) rfl)
  all_goals exact h

theorem cautionRace : P (cautionRace s).1 := by
  unfold Machine.cautionRace
  split
  · exact k.outside (k.runs h (.inr rfl)) rfl
  all_goals exact h

theorem clearCautionRace : P (clearCautionRace s).1 := by
  unfold Machine.clearCautionRace
  split
  · exact k.outside (k.runs h (.inl rfl)) rfl
  all_goals exact h

theorem haltRequest : P (haltRequest s).1 := by
  unfold Machine.haltRequest
  split
  · exact h
  all_goals
    rw [accept_state]
    exact k.haltRace h .halt

theorem resumeRace : P (resumeRace s).1 := by
  unfold Machine.resumeRace
  split
  · next halted =>
    exact enterRun_keeps h (fun _ => k.outside h rfl)
      (k.outside (k.runs (k.restarts h halted) (.inl rfl)) rfl)
  all_goals exact h

theorem setupRace : P (setupRace s).1 := by
  unfold Machine.setupRace
  split
  · next halted => exact k.outside (k.setsUp h halted) rfl
  all_goals exact h

/-! ### Map writes and loads -/

theorem writeSegment (body : List Byte) : P (writeSegment body s).1 := by
  unfold Machine.writeSegment
  split
  · dsimp only
    split
    · next n _ =>
      refine mapWrite_keeps h fun _ _ => ?_
      exact k.outside (k.surveys (m := { s.map with segments := update s.map.segments n _ }) h rfl) rfl
    · exact mapWrite_keeps h fun _ _ => h
  · exact h

theorem writeSwitch (body : List Byte) : P (writeSwitch body s).1 := by
  unfold Machine.writeSwitch
  split
  · dsimp only
    split
    · exact mapWrite_keeps h fun _ _ => k.storesSwitch _ _ h
    · exact mapWrite_keeps h fun _ _ => h
  · exact h

theorem writeGate (body : List Byte) : P (writeGate body s).1 := by
  unfold Machine.writeGate
  split
  · dsimp only
    split
    · exact mapWrite_keeps h fun _ _ => k.storesGate _ _ h
    · exact mapWrite_keeps h fun _ _ => h
  · exact h

theorem setPairingGate (body : List Byte) : P (setPairingGate body s).1 := by
  unfold Machine.setPairingGate
  split
  · next gate =>
    refine mapWrite_keeps h fun _ _ => ?_
    exact k.outside (k.surveys (m := { s.map with pairingGate := numberOrNone gate }) h rfl) rfl
  · exact h

theorem completeLoad : P (completeLoad s) := by
  unfold Machine.completeLoad
  split
  · exact k.outside h rfl
  · exact k.loads _ h

/-! ### Passages, settlements and records -/

theorem takePassage (c : CarNo) (j : SwitchNo) (thrownExit : Bool) : P (takePassage c j thrownExit s) := by
  unfold Machine.takePassage
  split
  · dsimp only
    split
    · exact k.shortens h List.filter_sublist rfl
    · exact k.shortens h List.filter_sublist rfl
  · split
    · exact k.raised h _
    · exact h

theorem passage (c : CarNo) (j : SwitchNo) (thrownExit : Bool) : P (passage c j thrownExit s) :=
  k.takePassage (k.counts h fun _ => by split <;> exact ⟨rfl, rfl, rfl, rfl⟩) c j thrownExit

theorem entryDetection (c : CarNo) {j : SwitchNo} (t : Time) (run : s.race = .run)
    (polled : Polled s.map (switchNode j)) : P (entryDetection c j t s) := by
  unfold Machine.entryDetection
  split
  · exact k.settles (s := s.modifyCar c _) (k.outside h rfl) run polled
  · exact h

theorem handOn (c : CarNo) (q : Sensor) (t : Time) (polled : Polled s.map q.node) : P (handOn c q t s) := by
  unfold Machine.handOn
  split
  · next own =>
    split
    · next run => exact k.entryDetection h c t run (nodeSwitch_eq_some own ▸ polled)
    · exact h
  · exact k.passage h c _ _
  · exact k.passage h c _ _
  · split
    · exact k.outside h (pairingGateDetection_track c s)
    · exact h
  · exact h

theorem takeRecord {a : NodeNo} (d : Detection) (polled : Polled s.map a) : P (takeRecord a s d) := by
  unfold Machine.takeRecord
  split
  · dsimp only
    split
    · refine k.handOn (k.outside h (takeDetection_track _ _ _ s)) _ _ _ ?_
      rwa [(takeDetection_trackFootprint _ _ _ s).map_eq]
    · exact k.raised h _
  · exact k.raised h _

theorem takeRecords {a : NodeNo} (r : NodeReply) (polled : Polled s.map a) : P (takeRecords a r s) := by
  have all : P ((oldestFirst r.detections).foldl (Machine.takeRecord a) s) ∧
      Polled ((oldestFirst r.detections).foldl (Machine.takeRecord a) s).map a :=
    List.foldlRecOn (motive := fun u => P u ∧ Polled u.map a) _ _ ⟨h, polled⟩ fun u ⟨hu, here⟩ d _ =>
      ⟨k.takeRecord hu d here, (takeRecord_trackFootprint a u d).map_eq.symm ▸ here⟩
  unfold Machine.takeRecords
  dsimp only
  split
  · exact k.raised all.1 _
  · exact all.1

/-! ### Exchanges -/

theorem tellNews {a : NodeNo} (news : NodeNews) (polled : Polled s.map a) : P (tellNews a news s) := by
  unfold Machine.tellNews
  split
  · exact h
  · unfold nodeFaults
    dsimp only
    split
    · next own => exact k.faults _ (k.raised h _) (nodeSwitch_eq_some own ▸ polled)
    · exact k.raised h _
  · exact k.raised h _

theorem takeAnswer {a : NodeNo} (polled : Polled s.map a) : P (takeAnswer a s) :=
  k.tellNews (k.stands h fun _ => NodeRecord.answered_unpolled _ _) _ polled

theorem takeMiss {a : NodeNo} (polled : Polled s.map a) : P (takeMiss a s) :=
  k.tellNews (k.stands h fun _ => NodeRecord.missed_unpolled _ _) _ polled

theorem takeReply {a : NodeNo} (r : NodeReply) (polled : Polled s.map a) : P (takeReply a r s) := by
  have answered := k.takeAnswer h polled
  have here : Polled (Machine.takeAnswer a s).map a := (takeAnswer_trackFootprint a s).map_eq.symm ▸ polled
  unfold Machine.takeReply
  dsimp only
  split
  · next own _ =>
    refine k.takeRecords (k.takesPosition _ answered (nodeSwitch_eq_some own ▸ here)) r ?_
    rwa [(takePosition_switchFootprint _ _ _).map_eq]
  · exact k.takeRecords answered r here

/-- An exchange's end keeps the law when its outcome does, from a node that is polled. -/
theorem endExchange {x : Exchange} (flying : s.loop.exchange = some x) {outcome : State → State}
    (keeps : Polled s.map x.node → P (outcome s)) : P (endExchange x outcome s) := by
  unfold Machine.endExchange
  refine k.arbitrates ?_
  split
  · exact h
  · next counts => exact k.moves x (keeps (k.polledExchange h flying (by simpa using counts)))

/-! ### Commands -/

theorem switchRequest {act : SwitchNo → State → State × Reply} (body : List Byte)
    (acts : ∀ {j}, Polled s.map (switchNode j) → P (act j s).1) : P (switchRequest act body s).1 := by
  unfold Machine.switchRequest
  split
  · split
    · split
      · next used => exact acts (k.polledUsed used)
      · exact h
    · exact h
  · exact h

/-- Every request's owner keeps the law. -/
theorem owner (p : Port) (x : Request) (body : List Byte) : P (ownerOf p x body s).1 := by
  cases x with
  | identify | status | badTarget | readPairing => exact h
  | readEvents | clearQueue => exact k.outside h rfl
  | setEventMask =>
    dsimp only [ownerOf]
    unfold setMask
    split
    · exact k.outside h rfl
    · exact h
  | clearFlags =>
    dsimp only [ownerOf]
    unfold clearFlags
    split
    · exact k.outside h rfl
    · exact h
  | start => exact k.startRace h
  | caution => exact k.cautionRace h
  | clearCaution => exact k.clearCautionRace h
  | halt => exact k.haltRequest h
  | resume => exact k.resumeRace h
  | setup => exact k.setupRace h
  | railFault => exact k.takeRailFault h
  | railClear =>
    dsimp only [ownerOf]
    unfold clearRail
    split
    · exact k.outside h rfl
    · exact h
  | writeSegment => exact k.writeSegment h body
  | readSegment => exact (readSegment_state body s).symm ▸ h
  | writeSwitch => exact k.writeSwitch h body
  | readSwitch => exact (readSwitch_state body s).symm ▸ h
  | writeGate => exact k.writeGate h body
  | readGate => exact (readGate_state body s).symm ▸ h
  | setPairingGate => exact k.setPairingGate h body
  | validateMap =>
    dsimp only [ownerOf]
    unfold validateMap
    split
    · exact h
    · exact k.outside h rfl
  | writeProfile => exact k.outside h (writeProfile_track body s)
  | readCar => exact (readCar_state body s).symm ▸ h
  | writeCalibration => exact k.outside h (writeCalibration_track body s)
  | setScan => exact k.outside h (setScan_track body s)
  | readRaw =>
    dsimp only [ownerOf]
    unfold readRaw
    split
    · split
      · exact k.outside h rfl
      · exact h
    · exact h
  | readHandset => exact (readHandset_state body s).symm ▸ h
  | postSamples => exact k.outside h (takeSamples_handsetFootprint body.tail s).track
  | bind => exact k.outside h (bindRequest_track body s)
  | unbind => exact k.outside h (unbindRequest_track body s)
  | lockSwitch => exact k.switchRequest h body (k.locks h)
  | unlockSwitch => exact k.switchRequest h body (k.unlocks h)
  | clearSwitch => exact k.switchRequest h body (k.clears h)
  | readNode => exact (readNode_state body s).symm ▸ h
  | fetchFrame =>
    dsimp only [ownerOf]
    unfold fetchFrame
    split
    · exact h
    · exact k.outside h rfl
  | setCycleTrim =>
    dsimp only [ownerOf]
    unfold setCycleTrim
    split
    · split
      · exact h
      · split
        · exact h
        · exact k.outside h rfl
    · exact h
  | setLimits => exact k.outside h (setLimits_track body s)
  | saveImage | loadImage => exact storeRequest_keeps h (k.outside h rfl)
  | restart =>
    dsimp only [ownerOf]
    unfold acceptRestart
    split
    · exact h
    · exact k.outside h rfl

/-- Every command keeps the law. -/
theorem command {t : State} (i : Instr) (e : exec i s = .next t) : P t := by
  have port (p : Port) (f : PortState → PortState) (u : State) (hu : P u) : P (u.modifyPort p f) :=
    k.outside hu rfl
  have reply (p : Port) (status : Byte) (body : List Byte) (u : State) (hu : P u) :
      P (withReply p status body u) := port p _ u hu
  cases i using instr_rowCases with
  | request x p =>
    rw [exec_request] at e
    exact serve_keeps e h (reply p) fun body => k.owner h p x body
  | chipSelectFall p =>
    dsimp only [exec, execChipSelectFall] at e
    exact whenRunning_keeps e h fun _ => port p _ s h
  | chipSelectRise p =>
    exact whenRunning_keeps e h fun _ =>
      raiseSelect_keeps h (port p) (fun x body => k.owner h p x body) k.powerOn
  | unknownRequest p => exact serveUnknown_keeps e h (reply p)
  | masterSendsByte p b =>
    exact whenRunning_keeps e h fun _ => clockPort_keeps h (port p) fun x body => k.owner h p x body
  | resetPinAssert =>
    obtain rfl := Host.Outcome.next.inj e
    exact k.outside h rfl
  | powerOnReset x =>
    obtain rfl := Host.Outcome.next.inj e
    exact k.powerOn x s
  | intervalTimerExpiry =>
    dsimp only [exec, execIntervalTimerExpiry] at e
    refine whenRunning_keeps e h fun _ => ?_
    split
    · exact k.outside h rfl
    · exact h
  | roundResult ch raw pressed =>
    dsimp only [exec, execRoundResult] at e
    refine whenRunning_keeps e h fun _ => ?_
    split
    · exact h
    · split
      · exact k.outside h ((takeWiredResult_handsetFootprint _ _ _ _).track.trans rfl)
      · exact h
  | holdEnd n =>
    dsimp only [exec, execHoldEnd] at e
    refine whenRunning_keeps e h fun _ => ?_
    split
    · exact k.outside h rfl
    · exact h
  | lostTime n =>
    dsimp only [exec, execLostTime] at e
    refine whenRunning_keeps e h fun _ => ?_
    split
    · exact k.outside h rfl
    · exact h
  | holdTimerExpiry n =>
    dsimp only [exec, execHoldTimerExpiry] at e
    refine whenRunning_keeps e h fun _ => ?_
    split
    · exact k.outside h ((seekRequest_pairingFootprint n _).track.trans rfl)
    · exact h
  | seekTimerExpiry n =>
    dsimp only [exec, execSeekTimerExpiry] at e
    refine whenRunning_keeps e h fun _ => ?_
    split
    · exact h
    · split
      · exact k.outside h rfl
      · exact h
  | intentExpiry c =>
    dsimp only [exec, execIntentExpiry] at e
    refine whenRunning_keeps e h fun _ => ?_
    split
    · exact k.outside h (modifyCar_track c _ s)
    · exact h
  | ageExpiry c =>
    dsimp only [exec, execAgeExpiry] at e
    refine whenRunning_keeps e h fun _ => ?_
    split
    · exact k.outside h (modifyCar_track c _ s)
    · exact h
  | staleExpiry j c =>
    dsimp only [exec, execStaleExpiry] at e
    refine whenRunning_keeps e h fun _ => ?_
    split
    · exact h
    · exact k.shortens h List.erase_sublist rfl
  | deadlineExpiry j =>
    dsimp only [exec, execDeadlineExpiry] at e
    refine whenRunning_keeps e h fun _ => ?_
    split
    · next come =>
      refine k.faults _ h (k.polledDeadline h fun none => ?_)
      rw [none] at come
      exact Bool.false_ne_true come
    · exact h
  | cycleEnd =>
    dsimp only [exec, execCycleEnd] at e
    refine whenRunning_keeps e h fun _ => ?_
    split
    · exact k.outside h rfl
    · exact h
  | pollSent =>
    dsimp only [exec, execPollSent] at e
    refine whenRunning_keeps e h fun _ => ?_
    split
    · exact h
    · next flying =>
      split
      · exact k.sends h flying
      · exact h
  | replyReceived r =>
    dsimp only [exec, execReplyReceived] at e
    refine whenRunning_keeps e h fun _ => ?_
    split
    · exact h
    · next flying =>
      split
      · refine k.endExchange h flying fun polled => ?_
        split
        · exact k.takeMiss h polled
        · exact k.takeReply h r polled
      · exact h
  | replyTimeout =>
    dsimp only [exec, execReplyTimeout] at e
    refine whenRunning_keeps e h fun _ => ?_
    split
    · exact h
    · next flying =>
      split
      · exact k.endExchange h flying (k.takeMiss h)
      · exact h
  | saveWriteConfirm =>
    dsimp only [exec, execSaveWriteConfirm] at e
    refine whenRunning_keeps e h fun _ => ?_
    split
    · exact k.outside h (confirmWrite_track _ s)
    all_goals exact h
  | saveWriteTimeout =>
    dsimp only [exec, execSaveWriteTimeout] at e
    refine whenRunning_keeps e h fun _ => ?_
    split
    · split
      · exact k.outside h rfl
      · exact h
    all_goals exact h
  | loadComplete =>
    dsimp only [exec, execLoadComplete] at e
    refine whenRunning_keeps e h fun _ => ?_
    split
    · exact k.completeLoad h
    all_goals exact h

omit h in
/-- Every step keeps the law. -/
theorem everyStep : KeptByEveryStep P :=
  keptByEveryStep_of_exec (fun i _ _ h e => k.command h i e) (fun _ _ h => k.outside h rfl)
    (fun _ _ h => k.outside h rfl) fun _ h => k.outside h rfl

end TrackKept

end Sys2Proof.Machine
end

section
/-!
O45. Every step keeps the reservation lists short and free of doubles: every operation on the track but a grant
leaves sublists of the lists it found, and a grant adds the entry of a car that superseding has taken out of every
list, to a list with room.
-/

namespace Sys2Proof.Machine

/-! ### What the law says list by list -/

section Lists

variable {s t : State}

theorem reservedCars_nodup_iff : (reservedCars s).Nodup ↔
    (∀ j : SwitchNo, (s.lists[j].map Reservation.car).Nodup) ∧
      ∀ i j : SwitchNo, i ≠ j → (s.lists[i].map Reservation.car).Disjoint (s.lists[j].map Reservation.car) := by
  unfold reservedCars
  rw [List.nodup_flatMap]
  constructor
  · rintro ⟨each, apart⟩
    have symm : Std.Symm (Function.onFun List.Disjoint fun j : SwitchNo => s.lists[j].map Reservation.car) :=
      ⟨fun _ _ d => d.symm⟩
    exact ⟨fun j => each j (mem_switchNos j), fun i j other =>
      apart.forall (mem_switchNos i) (mem_switchNos j) other⟩
  · rintro ⟨each, apart⟩
    exact ⟨fun j _ => each j, switchNos_nodup.imp fun other => apart _ _ other⟩

/-- Sublists of lawful lists are lawful. -/
theorem ReservationLaw.of_sublist (h : ReservationLaw s)
    (sub : ∀ j : SwitchNo, (t.lists[j]).Sublist s.lists[j]) : ReservationLaw t := by
  obtain ⟨each, apart⟩ := reservedCars_nodup_iff.mp h.once
  have cars (j : SwitchNo) : (t.lists[j].map Reservation.car).Sublist (s.lists[j].map Reservation.car) :=
    (sub j).map _
  refine ⟨fun j => (sub j).length_le.trans (h.room j), reservedCars_nodup_iff.mpr ⟨fun j => ?_, fun i j other => ?_⟩⟩
  · exact (each j).sublist (cars j)
  · exact fun c hi hj => apart i j other ((cars i).subset hi) ((cars j).subset hj)

theorem ReservationLaw.of_lists (h : ReservationLaw s) (same : t.lists = s.lists) : ReservationLaw t :=
  h.of_sublist fun j => by rw [same]

theorem ReservationLaw.of_empty (h : ReservationLaw s) (empty : ∀ j : SwitchNo, t.lists[j] = []) :
    ReservationLaw t :=
  h.of_sublist fun j => by rw [empty]; exact List.nil_sublist _

theorem ReservationLaw.of_cut (h : ReservationLaw s) {j : SwitchNo} {l : List Reservation}
    (sub : l.Sublist s.lists[j]) (cut : t.lists = s.lists.set j l) : ReservationLaw t := by
  refine h.of_sublist fun i => ?_
  have entry := update_get s.lists j i fun _ => l
  rw [update_eq_set, ← cut] at entry
  rw [entry]
  split
  · next same => exact same ▸ sub
  · exact .refl _

/-- A list with room takes the entry of a car that no list holds. -/
theorem ReservationLaw.of_insert (h : ReservationLaw s) {j : SwitchNo} {l : List Reservation} {e : Reservation}
    (free : ∀ (i : SwitchNo), ∀ x ∈ s.lists[i], x.car ≠ e.car) (room : s.lists[j].length < 4)
    (inserted : l.Perm (e :: s.lists[j])) (lists : t.lists = s.lists.set j l) : ReservationLaw t := by
  obtain ⟨each, apart⟩ := reservedCars_nodup_iff.mp h.once
  have absent (i : SwitchNo) : e.car ∉ s.lists[i].map Reservation.car := fun hc => by
    obtain ⟨x, hx, same⟩ := List.mem_map.mp hc
    exact free i x hx same
  have own : t.lists[j] = l := by simp [lists]
  have other (i : SwitchNo) (hi : i ≠ j) : t.lists[i] = s.lists[i] := by
    have entry := update_other s.lists (i := j) (fun _ => l) hi
    rwa [update_eq_set, ← lists] at entry
  have cars : (l.map Reservation.car).Perm (e.car :: s.lists[j].map Reservation.car) := inserted.map _
  have added (i : SwitchNo) (hi : i ≠ j) :
      (s.lists[i].map Reservation.car).Disjoint (l.map Reservation.car) := by
    intro c hc hl
    obtain rfl | old := List.mem_cons.mp (cars.mem_iff.mp hl)
    · exact absent i hc
    · exact apart i j hi hc old
  refine ⟨fun i => ?_, reservedCars_nodup_iff.mpr ⟨fun i => ?_, fun i i' differ => ?_⟩⟩
  · by_cases hi : i = j
    · subst hi
      rw [own, inserted.length_eq]
      exact room
    · rw [other i hi]
      exact h.room i
  · by_cases hi : i = j
    · subst hi
      rw [own, cars.nodup_iff]
      exact (each i).cons (absent i)
    · rw [other i hi]
      exact each i
  · by_cases hi : i = j
    · subst hi
      rw [own, other i' differ.symm]
      exact (added i' differ.symm).symm
    · rw [other i hi]
      by_cases hi' : i' = j
      · subst hi'
        rw [own]
        exact added i differ
      · rw [other i' hi']
        exact apart i i' differ

end Lists

/-! ### The lists that each operation leaves -/

section Operations

variable (s : State)

theorem throwRequest_lists (j : SwitchNo) : (throwRequest j s).lists = s.lists := by
  have commanded : (commandPosition j .thrown s).lists = s.lists := by rw [commandPosition_eq]
  unfold throwRequest
  split
  · exact commanded
  · exact commanded
  all_goals rfl

theorem returnRequest_lists (j : SwitchNo) : (returnRequest j s).lists = s.lists := by
  cases acts : returns j s with
  | true => rw [returnRequest_taken acts]; rfl
  | false => rw [returnRequest_ignored acts]

theorem returnIfEmpty_lists (j : SwitchNo) : (returnIfEmpty j s).lists = s.lists := by
  unfold returnIfEmpty
  split
  · exact returnRequest_lists s j
  · rfl

theorem revokeList_lists (cause : RevokeCause) (j : SwitchNo) :
    (revokeList cause j s).lists = s.lists.set j [] := by
  have removed := (revokeList_removes cause j s).lists
  rw [← update_eq_set s.lists j fun _ => []]
  refine table_ext fun i => ?_
  rw [removed, update_get]
  simp

/-- A switch that enters FAULT loses its list, and one in FAULT keeps it (R104, R118). -/
theorem enterFault_lists (j : SwitchNo) (cause : SwitchCause) :
    (enterFault j cause s).lists = if s.switches[j].state = .fault then s.lists else s.lists.set j [] := by
  unfold enterFault
  split
  · rfl
  · exact revokeList_lists _ _ _

theorem positionReport_lists (j : SwitchNo) (x : ReportedPosition) : (positionReport j x s).lists = s.lists := by
  have commands (y : Position) (u : State) : (commandPosition j y u).lists = u.lists := by
    rw [commandPosition_eq]
  have either {p : Prop} [Decidable p] {t u : State} (ht : t.lists = s.lists) (hu : u.lists = s.lists) :
      (if p then t else u).lists = s.lists := by
    split
    · exact ht
    · exact hu
  unfold positionReport
  dsimp only
  split
  · exact either rfl (commands _ _)
  · exact either rfl rfl
  · exact either rfl (commands _ _)
  · exact either rfl rfl
  · exact either rfl (either (commands _ _) rfl)
  · rfl

theorem takePosition_lists (j : SwitchNo) (x : ReportedPosition) : (takePosition j x s).lists = s.lists := by
  unfold takePosition
  dsimp only
  split <;> exact positionReport_lists s j x

theorem lockSwitch_lists (j : SwitchNo) :
    (lockSwitch j s).1.lists = s.lists ∨ (lockSwitch j s).1.lists = s.lists.set j [] := by
  have locked (u : State) : (becomeLocked j u).lists = u.lists.set j [] := revokeList_lists _ _ _
  have commanded : (becomeLocked j (commandPosition j .straight s)).lists = s.lists.set j [] := by
    rw [locked, commandPosition_eq]
  unfold lockSwitch
  split
  · exact .inr (locked s)
  · exact .inr commanded
  · exact .inr commanded
  · exact .inr commanded
  · exact .inl rfl
  · exact .inl rfl

theorem unlockSwitch_lists (j : SwitchNo) : (unlockSwitch j s).1.lists = s.lists := by
  unfold unlockSwitch
  dsimp only
  split
  · split <;> rfl
  all_goals rfl

theorem clearSwitch_lists (j : SwitchNo) : (clearSwitch j s).1.lists = s.lists := by
  unfold clearSwitch
  split
  · split
    · rfl
    · rw [commandPosition_eq]; rfl
  all_goals rfl

theorem UseFootprint.lists {s t : State} (e : UseFootprint s t) : t.lists = s.lists := by rw [e]

theorem storeSwitch_lists (j : SwitchNo) (r : Switch) : (storeSwitch j r s).lists = s.lists := by
  unfold storeSwitch
  rw [wakeLoop_footprint]
  exact (followSwitchUse_useFootprint _ _ j _).lists

theorem storeGate_lists (g : Fin 16) (r : Gate) : (storeGate g r s).lists = s.lists := by
  unfold storeGate
  rw [wakeLoop_footprint, followGateUse_footprint]
  rfl

theorem loadMap_lists (m : TrackMap) : (loadMap m s).lists = s.lists := by
  rw [loadMap_eq]

theorem applyLoad_lists (i : Image) : (applyLoad i s).lists = s.lists := by
  unfold applyLoad
  rw [wakeLoop_footprint]
  exact loadMap_lists s i.map

end Operations

/-! ### Settlements -/

theorem insertEntry_perm (tRef : Time) (entry : Nat) (e : Reservation) (l : List Reservation) :
    (insertEntry tRef entry e l).Perm (e :: l) := by
  induction l with
  | nil => exact .refl _
  | cons x xs ih =>
    unfold insertEntry
    split
    · exact .refl _
    · exact (ih.cons x).trans (.swap e x xs)

/-- Only a list with room is granted an entry (R85, R99). -/
theorem decideVerdict_grant {s : State} {sw : SwitchState} {j : SwitchNo} {a : Window} {x : Findings}
    (granted : decideVerdict s sw j a x = .grant) : s.lists[j].length < 4 := by
  unfold decideVerdict at granted
  split_ifs at granted with closed late reserved traffic full
  exact Nat.not_le.mp full

theorem handOnVerdict_lists (v : VerdictRecord) (s : State) : (handOnVerdict v s).lists =
    if v.verdict = .grant
    then s.lists.set v.switch (insertEntry v.refTime v.entry (grantedEntry v) s.lists[v.switch]) else s.lists := by
  unfold handOnVerdict carryOutGrant
  dsimp only
  rw [saturationReport_footprint]
  split
  · rw [throwRequest_lists]
    rfl
  · rfl

/-- After superseding no list holds the car (R84). -/
theorem supersede_free (k : CarNo) (s : State) (i : SwitchNo) : ∀ e ∈ (supersede k s).lists[i], e.car ≠ k := by
  intro e he
  rw [(supersede_removes k s).lists, if_pos (mem_switchNos i)] at he
  exact bne_iff_ne.mp (List.mem_filter.mp he).2

theorem ReservationLaw.handOnVerdict {s : State} (h : ReservationLaw s) {v : VerdictRecord}
    (free : ∀ i : SwitchNo, ∀ e ∈ s.lists[i], e.car ≠ v.car)
    (room : v.verdict = .grant → s.lists[v.switch].length < 4) : ReservationLaw (handOnVerdict v s) := by
  have lists := handOnVerdict_lists v s
  split at lists
  · next granted => exact h.of_insert (e := grantedEntry v) free (room granted) (insertEntry_perm _ _ _ _) lists
  · exact h.of_lists lists

theorem ReservationLaw.settle {s : State} (h : ReservationLaw s) (k : CarNo) (j : SwitchNo) (t : Time) :
    ReservationLaw (settle k j t s) := by
  have superseded : ReservationLaw (supersede k s) := h.of_sublist fun i => by
    rw [(supersede_removes k s).lists, if_pos (mem_switchNos i)]
    exact List.filter_sublist
  exact superseded.handOnVerdict (supersede_free k s) decideVerdict_grant

theorem ReservationLaw.enterFault {s : State} (h : ReservationLaw s) (j : SwitchNo) (cause : SwitchCause) :
    ReservationLaw (enterFault j cause s) := by
  have lists := enterFault_lists s j cause
  split at lists
  · exact h.of_lists lists
  · exact h.of_cut (List.nil_sublist _) lists

/-! ### The statement -/

theorem reservationLaw_kept : TrackKept (fun _ _ => True) ReservationLaw where
  outside h e := h.of_lists (congrArg Track.lists e)
  powerOn _ _ := reservationLaw_reset.of_lists rfl
  polledUsed _ := trivial
  polledExchange _ _ _ := trivial
  polledDeadline _ _ := trivial
  runs h _ := h.of_lists rfl
  setsUp h _ := h.of_lists rfl
  halts h e := h.of_empty fun j => by rw [(revokeAllLists_removes _).lists, if_pos (mem_switchNos j)]
  restarts {s} h _ := h.of_empty fun j => updateAll_get s.lists (fun _ _ => []) j
  surveys h _ := h.of_lists rfl
  storesSwitch j r h := h.of_lists (storeSwitch_lists _ j r)
  storesGate g r h := h.of_lists (storeGate_lists _ g r)
  loads i h := h.of_lists (applyLoad_lists _ i)
  shortens h sub e := h.of_cut sub ((returnIfEmpty_lists _ _).trans (congrArg Track.lists e))
  settles h _ _ := h.settle _ _ _
  counts h _ := h.of_lists rfl
  faults cause h _ := h.enterFault _ cause
  takesPosition x h _ := h.of_lists (takePosition_lists _ _ x)
  locks h _ := (lockSwitch_lists _ _).elim h.of_lists (h.of_cut (List.nil_sublist _))
  unlocks h _ := h.of_lists (unlockSwitch_lists _ _)
  clears h _ := h.of_lists (clearSwitch_lists _ _)
  stands h _ := h.of_lists rfl
  sends h _ := h.of_lists rfl
  moves x h := h.of_lists (by rw [moveServed_footprint])
  arbitrates h := h.of_lists (by rw [arbitrate_footprint])

/-- Settles O45: every operation on the track keeps the lists lawful. -/
theorem reservationLawKept : Obligations.ReservationLawKept := reservationLaw_kept.everyStep

end Sys2Proof.Machine
end

section
/-!
O54. Every step keeps the track's law. The law comes apart into what it asks of each switch, of the loop, of the
lists in SETUP and HALT, and of an idle loop. Most operations move one switch, so that only that switch's part is to
be shown; removals and changes of the map move many, each in the same way.
-/

namespace Sys2Proof.Machine

/-! ### The parts of the law -/

/-- One switch's part of the law: its record by its used field, its list and its place on the urgent list (R110,
R111, R144). -/
structure SwitchFits (used : Bool) (r : SwitchRun) (l : List Reservation) (urgent : Prop) : Prop where
  lawful : used = true → r.lawful
  atRest : used = false → r.atRest
  thrown : r.commanded = .thrown → l ≠ []
  urgent : urgent → used = true ∧ r.state ≠ .fault

/-- The law but for the lists in SETUP and HALT and the idle loop. -/
structure TrackFits (s : State) : Prop where
  switches : ∀ j : SwitchNo, SwitchFits (s.map.switch j).used s.switches[j] s.lists[j] (j ∈ s.loop.urgent)
  urgentOnce : s.loop.urgent.Nodup
  urgentRun : s.loop.urgentRun ≤ 2
  polled : ∀ a : NodeNo, s.loop.nodes[a].state = .unpolled ↔ s.map.polled a = false
  exchange : ∀ x, s.loop.exchange = some x → x.discard = false → s.map.polled x.node = true

/-- In SETUP and HALT no list holds an entry (R105). -/
def FieldClear (s : State) : Prop := s.race = .setup ∨ s.race = .halt → ∀ j : SwitchNo, s.lists[j] = []

/-- Without an exchange the polled set is empty (R134, R145). -/
def LoopBusy (s : State) : Prop := s.loop.exchange = none → ∀ a : NodeNo, s.map.polled a = false

theorem trackLaw_iff {s : State} : TrackLaw s ↔ TrackFits s ∧ FieldClear s ∧ LoopBusy s := by
  constructor
  · intro h
    exact ⟨⟨fun j => ⟨h.used j, h.unused j, h.thrown j, h.urgentUsed j⟩, h.urgentOnce, h.urgentRun, h.polled,
      h.exchange⟩, h.empty, h.idle⟩
  · rintro ⟨h, clear, busy⟩
    exact ⟨fun j => (h.switches j).lawful, fun j => (h.switches j).atRest, fun j => (h.switches j).thrown, clear,
      fun j => (h.switches j).urgent, h.urgentOnce, h.urgentRun, h.polled, h.exchange, busy⟩

section Parts

variable {s t : State}

theorem TrackFits.of_track (h : TrackFits s) (e : t.track = s.track) : TrackFits t := by
  obtain ⟨-, map, lists, switches, loop⟩ := track_eq_iff.mp e
  refine ⟨fun j => ?_, ?_, ?_, fun a => ?_, fun x => ?_⟩
  · rw [map, lists, switches, loop]; exact h.switches j
  · rw [loop]; exact h.urgentOnce
  · rw [loop]; exact h.urgentRun
  · rw [loop, map]; exact h.polled a
  · rw [loop, map]; exact h.exchange x

theorem FieldClear.of_lists (h : FieldClear s) (race : t.race = s.race)
    (lists : ∀ j : SwitchNo, s.lists[j] = [] → t.lists[j] = []) : FieldClear t :=
  fun still j => lists j (h (race ▸ still) j)

theorem FieldClear.of_sublist (h : FieldClear s) (race : t.race = s.race)
    (sub : ∀ j : SwitchNo, (t.lists[j]).Sublist s.lists[j]) : FieldClear t :=
  h.of_lists race fun j none => List.sublist_nil.mp (none ▸ sub j)

theorem FieldClear.running (race : s.race = .run ∨ s.race = .caution) : FieldClear s := by
  intro still
  obtain e | e := race <;> simp [e] at still

theorem LoopBusy.of_exchange (h : LoopBusy s) (map : t.map = s.map)
    (exchange : t.loop.exchange = none → s.loop.exchange = none) : LoopBusy t :=
  fun none a => map ▸ h (exchange none) a

theorem TrackLaw.of_track (h : TrackLaw s) (e : t.track = s.track) : TrackLaw t := by
  obtain ⟨fits, clear, busy⟩ := trackLaw_iff.mp h
  obtain ⟨race, map, lists, -, loop⟩ := track_eq_iff.mp e
  exact trackLaw_iff.mpr ⟨fits.of_track e, clear.of_lists race fun j none => by rwa [lists],
    busy.of_exchange map fun none => by rwa [← loop]⟩

end Parts

/-! ### One switch moves -/

/-- From `s` to `t` LCA and SWC move at most switch `j`, its list and its place on the urgent list. -/
structure OnlyAt (j : SwitchNo) (s t : State) : Prop where
  footprint : SwitchFootprint s t
  switches : ∀ i : SwitchNo, i ≠ j → t.switches[i] = s.switches[i]
  lists : ∀ i : SwitchNo, i ≠ j → t.lists[i] = s.lists[i]
  urgent : ∀ i : SwitchNo, i ≠ j → (i ∈ t.loop.urgent ↔ i ∈ s.loop.urgent)
  once : s.loop.urgent.Nodup → t.loop.urgent.Nodup

namespace OnlyAt

variable {j : SwitchNo} {s t u : State}

theorem refl (j : SwitchNo) (s : State) : OnlyAt j s s :=
  ⟨.refl s, fun _ _ => rfl, fun _ _ => rfl, fun _ _ => .rfl, id⟩

theorem trans (h : OnlyAt j s t) (k : OnlyAt j t u) : OnlyAt j s u where
  footprint := h.footprint.trans k.footprint
  switches i other := (k.switches i other).trans (h.switches i other)
  lists i other := (k.lists i other).trans (h.lists i other)
  urgent i other := (k.urgent i other).trans (h.urgent i other)
  once := k.once ∘ h.once

theorem raise (j : SwitchNo) (e : Event) (s : State) : OnlyAt j s (raise e s) :=
  ⟨rfl, fun _ _ => rfl, fun _ _ => rfl, fun _ _ => .rfl, id⟩

theorem modifySwitch (j : SwitchNo) (f : SwitchRun → SwitchRun) (s : State) : OnlyAt j s (s.modifySwitch j f) :=
  ⟨rfl, fun _ other => update_other _ f other, fun _ _ => rfl, fun _ _ => .rfl, id⟩

theorem setList (j : SwitchNo) (l : List Reservation) (s : State) : OnlyAt j s (s.setList j l) :=
  ⟨rfl, fun _ _ => rfl, fun _ other => update_other _ _ other, fun _ _ => .rfl, id⟩

theorem leaveUrgent (j : SwitchNo) (s : State) : OnlyAt j s (leaveUrgent j s) :=
  ⟨rfl, fun _ _ => rfl, fun _ _ => rfl, fun i other => by simp [Machine.leaveUrgent, other], fun once => once.filter _⟩

theorem joinUrgent (j : SwitchNo) (s : State) : OnlyAt j s (joinUrgent j s) := by
  rw [joinUrgent_eq]
  refine ⟨rfl, fun _ _ => rfl, fun _ _ => rfl, fun i other => ?_, fun once => ?_⟩
  · rw [State.setUrgent_loop]
    split <;> simp [other]
  · rw [State.setUrgent_loop]
    split
    · exact once
    · next new => exact once.append (List.nodup_singleton j) (by simpa using new)

theorem commandPosition (j : SwitchNo) (x : Position) (s : State) : OnlyAt j s (commandPosition j x s) :=
  (modifySwitch j _ s).trans (joinUrgent j _)

theorem changeState (j : SwitchNo) (x : SwitchState) (cause : SwitchCause) (s : State) :
    OnlyAt j s (changeState j x cause s) :=
  (modifySwitch j _ s).trans (raise j _ _)

/-- A move at one switch keeps the law when it keeps that switch's part. -/
theorem fits (o : OnlyAt j s t) (h : TrackFits s)
    (own : SwitchFits (s.map.switch j).used t.switches[j] t.lists[j] (j ∈ t.loop.urgent)) : TrackFits t := by
  have map : t.map = s.map := o.footprint.map_eq
  have loop : t.loop = { s.loop with urgent := t.loop.urgent } := congrArg State.loop o.footprint
  refine ⟨fun i => ?_, o.once h.urgentOnce, ?_, fun a => ?_, fun x => ?_⟩
  · rw [map]
    by_cases same : i = j
    · subst same; exact own
    · have fits := h.switches i
      rw [o.switches i same, o.lists i same]
      exact ⟨fits.lawful, fits.atRest, fits.thrown, fun on => fits.urgent ((o.urgent i same).mp on)⟩
  · rw [loop]; exact h.urgentRun
  · rw [loop, map]; exact h.polled a
  · rw [loop, map]; exact h.exchange x

end OnlyAt

/-- A move of LCA and SWC that puts no entry into an empty list keeps the law when it keeps the switches' parts. -/
theorem TrackLaw.of_switches {s t : State} (h : TrackLaw s) (e : SwitchFootprint s t) (fits : TrackFits t)
    (lists : ∀ j : SwitchNo, s.lists[j] = [] → t.lists[j] = []) : TrackLaw t := by
  obtain ⟨-, clear, busy⟩ := trackLaw_iff.mp h
  have loop : t.loop = { s.loop with urgent := t.loop.urgent } := congrArg State.loop e
  exact trackLaw_iff.mpr ⟨fits, clear.of_lists (by rw [e]) lists,
    busy.of_exchange e.map_eq fun none => by rwa [loop] at none⟩

/-! ### The records that commands and changes of state leave -/

section Records

variable (j : SwitchNo) (s : State)

theorem commandPosition_switch (x : Position) : (commandPosition j x s).switches[j] = { s.switches[j] with
    commanded := x, deadline := some (later s.clock ((s.map.switch j).actuation + 200)) } := by
  rw [commandPosition_eq]
  simp

theorem commandPosition_lists (x : Position) : (commandPosition j x s).lists = s.lists := by
  rw [commandPosition_eq]

theorem changeState_switch (x : SwitchState) (cause : SwitchCause) :
    (changeState j x cause s).switches[j] = { s.switches[j] with
      state := x
      throwCount := if x = .throwing then bump 65535 s.switches[j].throwCount else s.switches[j].throwCount
      faultCount := if x = .fault then bump 255 s.switches[j].faultCount else s.switches[j].faultCount } := by
  rw [changeState_eq]
  simp

theorem changeState_lists (x : SwitchState) (cause : SwitchCause) : (changeState j x cause s).lists = s.lists := rfl

theorem changeState_loop (x : SwitchState) (cause : SwitchCause) : (changeState j x cause s).loop = s.loop := rfl

theorem cancelDeadline_switch : (cancelDeadline j s).switches[j] = { s.switches[j] with deadline := none } :=
  update_same _ _ _

end Records

/-! ### What the law fixes of one switch -/

section OneSwitch

variable {used : Bool} {r : SwitchRun} {l : List Reservation} {urgent : Prop}

/-- A switch with THROWN commanded is THROWN or THROWING (R110, R111). -/
theorem SwitchFits.thrown_state (h : SwitchFits used r l urgent) (commanded : r.commanded = .thrown) :
    r.state = .thrown ∨ r.state = .throwing := by
  cases use : used with
  | false =>
    obtain ⟨-, straight, -⟩ := h.atRest use
    rw [straight] at commanded
    cases commanded
  | true =>
    have lawful := h.lawful use
    unfold SwitchRun.lawful at lawful
    cases state : r.state <;> simp_all

/-- Only a used switch leaves STRAIGHT (R110). -/
theorem SwitchFits.used_of_state (h : SwitchFits used r l urgent) (state : r.state ≠ .straight) : used = true := by
  cases use : used with
  | false => exact absurd (h.atRest use).1 state
  | true => rfl

/-- A used switch fits when its record is lawful, its list backs a commanded THROWN, and it is not in FAULT on the
urgent list. -/
theorem SwitchFits.of_lawful (use : used = true) (lawful : r.lawful) (thrown : r.commanded = .thrown → l ≠ [])
    (noFault : urgent → r.state ≠ .fault) : SwitchFits used r l urgent :=
  ⟨fun _ => lawful, fun unused => Bool.noConfusion (use.symm.trans unused), thrown, fun on => ⟨use, noFault on⟩⟩

end OneSwitch

/-! ### Removals (R101, R104, R105) -/

section Removals

variable {left : List Reservation → List Reservation} {js : List SwitchNo} {s t u : State}

/-- Removals keep the law: a list that is emptied sends its switch back, and a switch with THROWN commanded is one
that a return request sends back. -/
theorem TrackFits.removes (h : TrackFits s) (r : Removes left js s t) (once : js.Nodup) : TrackFits t := by
  have map : t.map = s.map := r.footprint.map_eq
  have loop : t.loop = { s.loop with urgent := t.loop.urgent } := congrArg State.loop r.footprint
  have back {j : SwitchNo} (emptied : emptiedAt left s j = true) : (s.map.switch j).used = true := by
    have acts : returns j s = true := (Bool.and_eq_true_iff.mp emptied).2
    refine (h.switches j).used_of_state fun straight => ?_
    simp [returns_iff, straight, -Fin.getElem_fin] at acts
  refine ⟨fun j => ?_, ?_, ?_, fun a => ?_, fun x => ?_⟩
  · have fits := h.switches j
    have on : j ∈ t.loop.urgent → (s.map.switch j).used = true ∧
        (s.switches[j].state ≠ .fault ∨ j ∈ js ∧ emptiedAt left s j = true) := by
      rw [r.urgent]
      intro on
      obtain old | new := List.mem_append.mp on
      · exact ⟨(fits.urgent old).1, .inl (fits.urgent old).2⟩
      · obtain ⟨here, acts⟩ := List.mem_filter.mp new
        have emptied := (Bool.and_eq_true_iff.mp acts).1
        exact ⟨back emptied, .inr ⟨here, emptied⟩⟩
    rw [map, r.switches, r.lists]
    split
    · next gone => exact .of_lawful (back gone.2) ⟨rfl, by simp [returning]⟩ (by simp [returning]) (by simp [returning])
    · next stays =>
      refine ⟨fits.lawful, fits.atRest, fun commanded => ?_, fun here => ⟨(on here).1, (on here).2.resolve_right stays⟩⟩
      have list : s.lists[j] ≠ [] := fits.thrown commanded
      split
      · next here =>
        intro empty
        refine stays ⟨here, ?_⟩
        simp [emptiedAt, list, empty, returns_iff.mpr (fits.thrown_state commanded), -Fin.getElem_fin]
      · exact list
  · rw [r.urgent]
    refine h.urgentOnce.append (once.filter _) fun i old new => ?_
    simp [old] at new
  · rw [loop]; exact h.urgentRun
  · rw [loop, map]; exact h.polled a
  · rw [loop, map]; exact h.exchange x

theorem TrackLaw.removes (h : TrackLaw s) (r : Removes left js s t) (once : js.Nodup)
    (nothing : ∀ j ∈ js, s.lists[j] = [] → left s.lists[j] = []) : TrackLaw t := by
  refine h.of_switches r.footprint ((trackLaw_iff.mp h).1.removes r once) fun j none => ?_
  rw [r.lists]
  split
  · next here => exact nothing j here none
  · exact none

theorem TrackLaw.revokeList (h : TrackLaw s) (cause : RevokeCause) (j : SwitchNo) :
    TrackLaw (revokeList cause j s) :=
  h.removes (revokeList_removes cause j s) (List.nodup_singleton j) fun _ _ _ => rfl

theorem TrackLaw.supersede (h : TrackLaw s) (k : CarNo) : TrackLaw (supersede k s) :=
  h.removes (supersede_removes k s) switchNos_nodup fun _ _ none => by rw [none]; rfl

/-- A HALT sends every thrown switch back before the lists have to be empty (R105, R166). -/
theorem TrackLaw.halt (h : TrackLaw s) (e : u.track = { s.track with race := .halt }) :
    TrackLaw (revokeAllLists u) := by
  obtain ⟨fits, -, busy⟩ := trackLaw_iff.mp h
  have removed := revokeAllLists_removes u
  have still : TrackFits { s with race := .halt } :=
    ⟨fits.switches, fits.urgentOnce, fits.urgentRun, fits.polled, fits.exchange⟩
  have halted : TrackFits u := still.of_track e
  have loop : (revokeAllLists u).loop.exchange = s.loop.exchange := by
    rw [removed.footprint]
    exact congrArg (fun x => x.loop.exchange) e
  refine trackLaw_iff.mpr ⟨halted.removes removed switchNos_nodup, fun _ j => ?_, busy.of_exchange ?_ fun none => ?_⟩
  · rw [removed.lists, if_pos (mem_switchNos j)]
  · exact removed.footprint.map_eq.trans (congrArg Track.map e)
  · rwa [← loop]

/-- A switch whose list is empty has nothing to return from (R111). -/
theorem TrackLaw.returns_of_empty (h : TrackLaw s) {j : SwitchNo} (none : s.lists[j] = []) :
    returns j s = false := by
  rw [Bool.eq_false_iff, Ne, returns_iff]
  intro acts
  have fits := (trackLaw_iff.mp h).1.switches j
  have use : (s.map.switch j).used = true :=
    fits.used_of_state fun straight => by rw [straight] at acts; simp at acts
  have lawful := fits.lawful use
  unfold SwitchRun.lawful at lawful
  obtain thrown | throwing := acts
  · rw [thrown] at lawful
    exact fits.thrown lawful.1 none
  · rw [throwing] at lawful
    exact fits.thrown lawful.1 none

/-- An entry taken out of a list, with the return request for a list left empty, keeps the law. -/
theorem TrackLaw.shorten (h : TrackLaw s) {j : SwitchNo} {l : List Reservation} (sub : l.Sublist s.lists[j])
    (e : u.track = (s.setList j l).track) : TrackLaw (returnIfEmpty j u) := by
  obtain ⟨race, map, lists, switches, loop⟩ := track_eq_iff.mp e
  by_cases none : s.lists[j] = []
  · have same : u.lists = s.lists := by
      rw [none, List.sublist_nil] at sub
      refine table_ext fun i => ?_
      rw [lists, State.setList_lists, update_get, sub]
      split
      · next here => rw [here, none]
      · rfl
    have law : TrackLaw u := h.of_track (track_eq_iff.mpr ⟨race, map, same, switches, loop⟩)
    have ignored : returnIfEmpty j u = u := by
      unfold returnIfEmpty
      rw [returnRequest_ignored (law.returns_of_empty (by rw [same]; exact none)), ite_self]
    rwa [ignored]
  · have whole : TrackLaw { u with lists := s.lists } :=
      h.of_track (track_eq_iff.mpr ⟨race, map, rfl, switches, loop⟩)
    have removed := removes_returnIfEmpty (s := { u with lists := s.lists }) (u := u) (left := fun _ => l) none rfl
      lists rfl rfl
    refine whole.removes removed (List.nodup_singleton j) fun i here empty => ?_
    obtain rfl := List.mem_singleton.mp here
    exact absurd empty none

end Removals

end Sys2Proof.Machine
end

section
/-!
O54, operation by operation: grants, reports, faults and locks at one switch, the outcome of exchanges, and the
changes of the map, after which the loop starts.
-/

namespace Sys2Proof.Machine

section OneSwitch

variable {s t : State} {j : SwitchNo}

/-- A move at one used switch keeps the law when it leaves a lawful record, a list behind a commanded THROWN, and no
FAULT on the urgent list. -/
theorem TrackLaw.onlyAt (h : TrackLaw s) (use : (s.map.switch j).used = true) (o : OnlyAt j s t)
    (list : t.lists[j] = s.lists[j]) (lawful : t.switches[j].lawful)
    (thrown : t.switches[j].commanded = .thrown → s.lists[j] ≠ [])
    (noFault : j ∈ t.loop.urgent → t.switches[j].state ≠ .fault) : TrackLaw t := by
  refine h.of_switches o.footprint (o.fits (trackLaw_iff.mp h).1 (.of_lawful use lawful ?_ noFault)) fun i none => ?_
  · rwa [list]
  · by_cases same : i = j
    · subst same; rw [list, none]
    · rw [o.lists i same, none]

/-! ### Grants (R100, R113) -/

/-- A throw request for a used switch with entries keeps the law. -/
theorem TrackFits.grant (h : TrackFits s) (use : (s.map.switch j).used = true) {l : List Reservation} (some : l ≠ []) :
    TrackFits (throwRequest j (s.setList j l)) := by
  have fits := h.switches j
  have granted : TrackFits (s.setList j l) := (OnlyAt.setList j l s).fits h
    ⟨fits.lawful, fits.atRest, fun _ => by rw [State.setList_lists, update_same]; exact some, fits.urgent⟩
  have thrown : TrackFits (changeState j .throwing .throwOrder (commandPosition j .thrown (s.setList j l))) := by
    refine ((OnlyAt.commandPosition j .thrown _).trans (OnlyAt.changeState j _ _ _)).fits granted ?_
    rw [changeState_switch, commandPosition_switch, changeState_lists, commandPosition_lists, State.setList_lists,
      update_same]
    exact .of_lawful use ⟨rfl, by simp⟩ (fun _ => some) fun _ => by simp
  unfold throwRequest
  split
  · exact thrown
  · exact thrown
  all_goals exact granted

theorem insertEntry_ne_nil (tRef : Time) (entry : Nat) (e : Reservation) (l : List Reservation) :
    insertEntry tRef entry e l ≠ [] := fun none => by
  have perm := insertEntry_perm tRef entry e l
  rw [none] at perm
  exact List.cons_ne_nil _ _ perm.nil_eq.symm

theorem saturationReport_track (v : VerdictRecord) (s : State) : (saturationReport v s).track = s.track := by
  rw [saturationReport_footprint]
  rfl

theorem TrackFits.handOnVerdict (h : TrackFits s) {v : VerdictRecord} (use : (s.map.switch v.switch).used = true) :
    TrackFits (handOnVerdict v s) := by
  have reported := saturationReport_track v
    (raise (.verdict v) { s with verdicts := update s.verdicts v.switch fun _ => some v })
  unfold Machine.handOnVerdict carryOutGrant
  dsimp only
  generalize saturationReport v _ = z at reported ⊢
  have fits : TrackFits z := h.of_track reported
  split
  · refine fits.grant ?_ (insertEntry_ne_nil _ _ _ _)
    rw [show z.map = s.map from congrArg Track.map reported]
    exact use
  · exact fits

theorem TrackLaw.settle (h : TrackLaw s) (k : CarNo) (t : Time) (run : s.race = .run)
    (use : (s.map.switch j).used = true) : TrackLaw (settle k j t s) := by
  have frame := settle_trackFootprint k j t s
  have race : (Machine.settle k j t s).race = .run := by rw [frame]; exact run
  have exchange : (Machine.settle k j t s).loop.exchange = s.loop.exchange := by rw [frame]
  have superseded := (trackLaw_iff.mp (TrackLaw.supersede h k)).1
  have use' : ((Machine.supersede k s).map.switch j).used = true := by
    rwa [(supersede_switchFootprint k s).map_eq]
  exact trackLaw_iff.mpr ⟨superseded.handOnVerdict use', .running (.inl race),
    (trackLaw_iff.mp h).2.2.of_exchange frame.map_eq exchange.symm.trans⟩

/-! ### Commands and reports (R112, R115, R116, R139) -/

/-- A command followed by a change of state keeps the law when the new state is one of that command's, and a THROWN
that is commanded finds entries. -/
theorem TrackLaw.commanded (h : TrackLaw s) (use : (s.map.switch j).used = true) {u : State} (o : OnlyAt j s u)
    (list : u.lists[j] = s.lists[j]) {x : Position} {y : SwitchState} (cause : SwitchCause)
    (fit : x = .straight ∧ (y = .returning ∨ y = .locked) ∨ x = .thrown ∧ y = .throwing ∧ s.lists[j] ≠ []) :
    TrackLaw (changeState j y cause (commandPosition j x u)) := by
  refine h.onlyAt use (o.trans ((OnlyAt.commandPosition j x u).trans (OnlyAt.changeState j y cause _))) ?_ ?_ ?_ ?_
  · rw [changeState_lists, commandPosition_lists, list]
  all_goals
    rw [changeState_switch, commandPosition_switch]
    obtain ⟨rfl, rfl | rfl⟩ | ⟨rfl, rfl, some⟩ := fit
  · exact ⟨rfl, by simp⟩
  · exact ⟨rfl, by simp⟩
  · exact ⟨rfl, by simp⟩
  · exact nofun
  · exact nofun
  · exact fun _ => some
  all_goals exact fun _ => nofun

/-- A report keeps the law at a used switch: by R116's rows, a record that a report makes unlawful moves on. -/
theorem TrackLaw.positionReport (h : TrackLaw s) (use : (s.map.switch j).used = true) (x : ReportedPosition) :
    TrackLaw (positionReport j x s) := by
  have fits := (trackLaw_iff.mp h).1.switches j
  have lawful := fits.lawful use
  have seen := OnlyAt.modifySwitch j (fun r => { r with confirmed := confirmedBy x }) s
  have record : (s.modifySwitch j fun r => { r with confirmed := confirmedBy x }).switches[j] =
      { s.switches[j] with confirmed := confirmedBy x } := update_same _ _ _
  have lists : (s.modifySwitch j fun r => { r with confirmed := confirmedBy x }).lists = s.lists := rfl
  have loop : (s.modifySwitch j fun r => { r with confirmed := confirmedBy x }).loop = s.loop := rfl
  unfold Machine.positionReport
  dsimp only
  generalize s.modifySwitch j (fun r => { r with confirmed := confirmedBy x }) = z at seen record lists loop ⊢
  generalize s.switches[j] = r at fits lawful record
  have state : z.switches[j].state = r.state := by rw [record]
  have stays (fit : SwitchRun.lawful { r with confirmed := confirmedBy x }) : TrackLaw z := by
    refine h.onlyAt use seen (by rw [lists]) ?_ ?_ ?_
    all_goals rw [record]
    · exact fit
    · exact fits.thrown
    · rw [loop]; exact fun on => (fits.urgent on).2
  have cancels (fit : SwitchRun.lawful { r with confirmed := confirmedBy x, deadline := none }) :
      TrackLaw (cancelDeadline j z) := by
    refine h.onlyAt use (seen.trans (OnlyAt.modifySwitch j _ z)) (congrArg (·[j]) lists) ?_ ?_ ?_
    all_goals rw [cancelDeadline_switch, record]
    · exact fit
    · exact fits.thrown
    · exact fun on => (fits.urgent (loop ▸ on)).2
  have confirms {y : SwitchState} (other : y ≠ .fault)
      (fit : SwitchRun.lawful { r with state := y, confirmed := confirmedBy x, deadline := none }) :
      TrackLaw (changeState j y .confirm (cancelDeadline j z)) := by
    refine h.onlyAt use (seen.trans ((OnlyAt.modifySwitch j _ z).trans (OnlyAt.changeState j y .confirm _)))
      (congrArg (·[j]) lists) ?_ ?_ ?_
    all_goals rw [changeState_switch, cancelDeadline_switch, record]
    · exact fit
    · exact fits.thrown
    · exact fun _ => other
  unfold SwitchRun.lawful at lawful
  cases found : r.state <;> rw [found] at lawful <;> rw [state, found] <;> dsimp only at lawful ⊢
  case straight =>
    split
    · next same => exact stays (by simp [SwitchRun.lawful, found, same, lawful, confirmedBy])
    · exact h.commanded use seen (by rw [lists]) .slip (.inl ⟨rfl, .inl rfl⟩)
  case throwing =>
    split
    · next same => exact confirms nofun (by simp [SwitchRun.lawful, same, lawful, confirmedBy])
    · exact stays (by simp [SwitchRun.lawful, found, lawful])
  case thrown =>
    split
    · next same => exact stays (by simp [SwitchRun.lawful, found, same, lawful, confirmedBy])
    · exact h.commanded use seen (by rw [lists]) .slip (.inr ⟨rfl, rfl, fits.thrown lawful.1⟩)
  case returning =>
    split
    · next same => exact confirms nofun (by simp [SwitchRun.lawful, same, lawful, confirmedBy])
    · exact stays (by simp [SwitchRun.lawful, found, lawful])
  case locked =>
    split
    · next same => exact cancels (by simp [SwitchRun.lawful, found, same, lawful, confirmedBy])
    · split
      · refine h.onlyAt use (seen.trans (OnlyAt.commandPosition j _ z)) ?_ ?_ ?_ ?_
        · rw [commandPosition_lists, lists]
        all_goals rw [commandPosition_switch, record]
        · simp [SwitchRun.lawful, found]
        · exact nofun
        · simp [found]
      · next pending =>
        rw [record] at pending
        exact stays (by simpa [SwitchRun.lawful, found, lawful] using fun _ => pending)
  case fault => exact stays (by simp [SwitchRun.lawful, found, lawful])

theorem TrackLaw.leaveUrgent (h : TrackLaw s) (j : SwitchNo) : TrackLaw (leaveUrgent j s) := by
  have fits := (trackLaw_iff.mp h).1
  have own := fits.switches j
  refine h.of_switches (leaveUrgent_switchFootprint j s) ((OnlyAt.leaveUrgent j s).fits fits ?_) fun _ none => none
  exact ⟨own.lawful, own.atRest, own.thrown, fun on => by simp [Machine.leaveUrgent] at on⟩

theorem TrackLaw.takePosition (h : TrackLaw s) (use : (s.map.switch j).used = true) (x : ReportedPosition) :
    TrackLaw (takePosition j x s) := by
  have reported := h.positionReport use x
  unfold Machine.takePosition
  dsimp only
  split
  · exact reported.leaveUrgent j
  · exact reported

/-! ### Faults and locks (R118, R122 to R124) -/

theorem TrackLaw.enterFault (h : TrackLaw s) (use : (s.map.switch j).used = true) (cause : SwitchCause) :
    TrackLaw (enterFault j cause s) := by
  unfold Machine.enterFault
  split
  · exact h
  · refine TrackLaw.revokeList (h.onlyAt use ((OnlyAt.modifySwitch j _ s).trans ((OnlyAt.leaveUrgent j _).trans
      (OnlyAt.changeState j .fault cause _))) rfl ?_ ?_ ?_) .fault j
    · rw [changeState_switch]
      simp [SwitchRun.lawful, Machine.leaveUrgent, -Fin.getElem_fin]
    · rw [changeState_switch]
      simp [Machine.leaveUrgent, -Fin.getElem_fin]
    · rw [changeState_loop]
      simp [Machine.leaveUrgent]

theorem TrackLaw.lockSwitch (h : TrackLaw s) (use : (s.map.switch j).used = true) :
    TrackLaw (lockSwitch j s).1 := by
  have fits := (trackLaw_iff.mp h).1.switches j
  have commanded : TrackLaw (becomeLocked j (commandPosition j .straight s)) :=
    TrackLaw.revokeList (h.commanded use (.refl j s) rfl .lock (.inl ⟨rfl, .inr rfl⟩)) .lock j
  unfold Machine.lockSwitch
  split
  · next straight =>
    have lawful := fits.lawful use
    unfold SwitchRun.lawful at lawful
    rw [straight] at lawful
    refine TrackLaw.revokeList (h.onlyAt use (OnlyAt.changeState j .locked .lock s) rfl ?_ ?_ ?_) .lock j
    all_goals rw [changeState_switch]
    · exact ⟨lawful.1, fun other => absurd lawful.2.1 other⟩
    · exact fits.thrown
    · exact fun _ => nofun
  · exact commanded
  · exact commanded
  · exact commanded
  all_goals exact h

theorem TrackLaw.unlockSwitch (h : TrackLaw s) (use : (s.map.switch j).used = true) :
    TrackLaw (unlockSwitch j s).1 := by
  have fits := (trackLaw_iff.mp h).1.switches j
  have lawful := fits.lawful use
  unfold SwitchRun.lawful at lawful
  unfold Machine.unlockSwitch
  dsimp only
  split
  · next locked =>
    rw [locked] at lawful
    obtain ⟨straight, pending⟩ := lawful
    have unlocks {y : SwitchState} (other : y ≠ .fault) (fit : SwitchRun.lawful { s.switches[j] with state := y }) :
        TrackLaw (changeState j y .unlock s) := by
      refine h.onlyAt use (OnlyAt.changeState j y .unlock s) rfl ?_ ?_ ?_
      all_goals rw [changeState_switch]
      · exact fit
      · exact fits.thrown
      · exact fun _ => other
    split
    · next home => exact unlocks nofun ⟨straight, home.1, home.2⟩
    · next away => exact unlocks nofun ⟨straight, fun none => away ⟨by by_contra other; exact pending other none, none⟩⟩
  all_goals exact h

theorem TrackLaw.clearSwitch (h : TrackLaw s) (use : (s.map.switch j).used = true) :
    TrackLaw (clearSwitch j s).1 := by
  unfold Machine.clearSwitch
  split
  · split
    · exact h
    · exact h.commanded use (.refl j s) rfl .clear (.inl ⟨rfl, .inl rfl⟩)
  all_goals exact h

end OneSwitch

end Sys2Proof.Machine
end

section
/-!
O54, the loop and the map. The arbiter chooses polled nodes and leaves the loop busy; and when the map is replaced,
every switch and node follows its own used field, whether one record is written or a whole image is loaded.
-/

namespace Sys2Proof.Machine

section Loops

variable {s t : State}

/-! ### Nodes and exchanges (R133, R134, R144) -/

/-- A change within the loop that leaves its nodes, and its urgent list but for the order, keeps the law's parts. -/
theorem TrackFits.withLoop (h : TrackFits s) {x : Loop} (nodes : x.nodes = s.loop.nodes)
    (urgent : ∀ j, j ∈ x.urgent ↔ j ∈ s.loop.urgent) (once : x.urgent.Nodup) (run : x.urgentRun ≤ 2)
    (exchange : ∀ y, x.exchange = some y → y.discard = false → s.map.polled y.node = true) :
    TrackFits { s with loop := x } := by
  refine ⟨fun j => ?_, once, run, fun a => ?_, exchange⟩
  · have fits := h.switches j
    exact ⟨fits.lawful, fits.atRest, fits.thrown, fun on => fits.urgent ((urgent j).mp on)⟩
  · rw [nodes]; exact h.polled a

theorem TrackLaw.withLoop (h : TrackLaw s) {x : Loop} (nodes : x.nodes = s.loop.nodes)
    (urgent : ∀ j, j ∈ x.urgent ↔ j ∈ s.loop.urgent) (once : x.urgent.Nodup) (run : x.urgentRun ≤ 2)
    (exchange : ∀ y, x.exchange = some y → y.discard = false → s.map.polled y.node = true)
    (idle : x.exchange = none → s.loop.exchange = none) : TrackLaw { s with loop := x } := by
  obtain ⟨fits, clear, busy⟩ := trackLaw_iff.mp h
  exact trackLaw_iff.mpr ⟨fits.withLoop nodes urgent once run exchange, clear, fun none => busy (idle none)⟩

theorem TrackLaw.moveServed (h : TrackLaw s) (x : Exchange) : TrackLaw (moveServed x s) := by
  unfold Machine.moveServed
  split
  · next j _ =>
    split
    · next served =>
      have on : j ∈ s.loop.urgent := by simpa using (Bool.and_eq_true_iff.mp served).2
      refine h.withLoop rfl (fun i => ?_) ?_ h.urgentRun h.exchange id
      · by_cases same : i = j <;> simp [same, on]
      · exact (h.urgentOnce.filter _).append (List.nodup_singleton j) (by simp)
    · exact h
  · exact h

theorem TrackLaw.modifyNode (h : TrackLaw s) (a : NodeNo) {f : NodeRecord → NodeRecord}
    (stays : ∀ r, (f r).state = .unpolled ↔ r.state = .unpolled) : TrackLaw (s.modifyNode a f) := by
  refine ⟨h.used, h.unused, h.thrown, h.empty, h.urgentUsed, h.urgentOnce, h.urgentRun, fun b => ?_, h.exchange, h.idle⟩
  rw [State.modifyNode_loop, update_get]
  split
  · exact (stays _).trans (h.polled b)
  · exact h.polled b

/-! ### The arbiter (R145, R146) -/

theorem roundNode_polled {a : NodeNo} (found : roundNode s = some a) : s.map.polled a = true := by
  unfold roundNode at found
  obtain up | ⟨-, around⟩ := Option.or_eq_some_iff.mp found
  · exact (Bool.and_eq_true_iff.mp (List.find?_some (p := fun a => decide (s.loop.pointer ≤ a) && s.map.polled a) up)).2
  · exact List.find?_some around

theorem roundNode_none (none : roundNode s = none) (a : NodeNo) : s.map.polled a = false := by
  unfold roundNode at none
  exact Bool.eq_false_iff.mpr (List.find?_eq_none.mp (Option.or_eq_none_iff.mp none).2 a (mem_nodeNos a))

/-- The arbiter leaves an exchange with a polled node, or an empty polled set. -/
theorem TrackFits.arbitrate (h : TrackFits s) (clear : FieldClear s) : TrackLaw (arbitrate s) := by
  have round : TrackLaw (beginRound s) := by
    unfold beginRound
    split
    · next a found =>
      have chosen : TrackFits { s with loop := { s.loop with
          pointer := pointerAfter a, urgentRun := 0,
          exchange := some { node := a, command := pollCommand a s, urgent := false, replyBy := none,
                             discard := false } } } :=
        h.withLoop rfl (fun _ => .rfl) h.urgentOnce (Nat.zero_le _) fun y e _ =>
          Option.some.inj e ▸ roundNode_polled found
      exact trackLaw_iff.mpr ⟨chosen, clear, nofun⟩
    · next none =>
      exact trackLaw_iff.mpr ⟨h.withLoop rfl (fun _ => .rfl) h.urgentOnce h.urgentRun nofun, clear,
        fun _ => roundNode_none none⟩
  unfold Machine.arbitrate
  split
  · next j rest urgent =>
    split
    · next few =>
      have polled : s.map.polled (switchNode j) = true := by
        rw [s.map.polled_switchNode]
        exact ((h.switches j).urgent (by rw [urgent]; exact List.mem_cons_self)).1
      have chosen : TrackFits { s with loop := { s.loop with
          urgentRun := s.loop.urgentRun + 1,
          exchange := some { node := switchNode j, command := pollCommand (switchNode j) s, urgent := true,
                             replyBy := none, discard := false } } } :=
        h.withLoop rfl (fun _ => .rfl) h.urgentOnce few fun y e _ => Option.some.inj e ▸ polled
      exact trackLaw_iff.mpr ⟨chosen, clear, nofun⟩
    · exact round
  · exact round

/-- Waking an idle loop makes up what the law asks of one. -/
theorem TrackFits.wakeLoop (h : TrackFits s) (clear : FieldClear s) : TrackLaw (wakeLoop s) := by
  rw [wakeLoop_eq]
  split
  · exact h.arbitrate clear
  · next busy =>
    refine trackLaw_iff.mpr ⟨h, clear, fun none a => Bool.eq_false_iff.mpr fun polled => busy ⟨none, a, polled⟩⟩

end Loops

/-! ### The map replaced (R130, R133) -/

/-- From `s` to `t` map `m` replaces the map, and each switch and node follows its own used field. -/
structure Followed (m : TrackMap) (s t : State) : Prop where
  race : t.race = s.race
  map : t.map = m
  lists : t.lists = s.lists
  switches : ∀ j : SwitchNo, t.switches[j] = followedSwitch s.map m s.clock j s.switches[j]
  nodes : ∀ a : NodeNo, t.loop.nodes[a] = followedNode s.map m a s.loop.nodes[a]
  urgent : ∀ j : SwitchNo, j ∈ t.loop.urgent ↔
    enters s.map m (switchNode j) = true ∨ j ∈ s.loop.urgent ∧ leaves s.map m (switchNode j) = false
  once : s.loop.urgent.Nodup → t.loop.urgent.Nodup
  run : t.loop.urgentRun = s.loop.urgentRun
  exchange : t.loop.exchange = s.loop.exchange.map fun x =>
    if leaves s.map m x.node then { x with discard := true } else x

theorem enters_iff {old m : TrackMap} {a : NodeNo} :
    enters old m a = true ↔ old.polled a = false ∧ m.polled a = true := by
  simp [enters]

theorem leaves_iff {old m : TrackMap} {a : NodeNo} :
    leaves old m a = true ↔ old.polled a = true ∧ m.polled a = false := by
  simp [leaves]

/-- A node that neither enters nor leaves stays as it was in the polled set. -/
theorem polled_eq_of_stays {old m : TrackMap} {a : NodeNo} (here : ¬enters old m a = true)
    (there : ¬leaves old m a = true) : m.polled a = old.polled a := by
  rw [enters_iff] at here
  rw [leaves_iff] at there
  cases before : old.polled a <;> cases after : m.polled a <;> simp_all

section Maps

variable {m : TrackMap} {s t : State}

theorem Followed.fits (f : Followed m s t) (h : TrackFits s) : TrackFits t := by
  refine ⟨fun j => ?_, f.once h.urgentOnce, by rw [f.run]; exact h.urgentRun, fun a => ?_, fun x found counts => ?_⟩
  · have fits := h.switches j
    have on := f.urgent j
    rw [f.map, f.lists, f.switches, ← m.polled_switchNode]
    rw [← s.map.polled_switchNode] at fits
    unfold followedSwitch
    split
    · next comes =>
      exact .of_lawful (enters_iff.mp comes).2 ⟨rfl, by simp⟩ nofun fun _ => nofun
    · next stays =>
      split
      · next goes =>
        refine ⟨fun use => ?_, fun _ => ⟨rfl, rfl, rfl, rfl⟩, nofun, fun here => ?_⟩
        · rw [(leaves_iff.mp goes).2] at use; cases use
        · simp [stays, goes, on] at here
      · next keeps =>
        rw [polled_eq_of_stays stays keeps]
        exact ⟨fits.lawful, fits.atRest, fits.thrown, fun here => fits.urgent ((on.mp here).resolve_left stays).1⟩
  · rw [f.nodes, f.map]
    unfold followedNode
    split
    · next comes => simp [NodeRecord.entered, (enters_iff.mp comes).2]
    · next stays =>
      split
      · next goes => simp [(leaves_iff.mp goes).2]
      · next keeps =>
        rw [polled_eq_of_stays stays keeps]
        exact h.polled a
  · rw [f.exchange] at found
    obtain ⟨y, flying, rfl⟩ := Option.map_eq_some_iff.mp found
    rw [f.map]
    split at counts
    · cases counts
    · next keeps =>
      rw [if_neg keeps]
      have polled := h.exchange y flying counts
      cases after : m.polled y.node
      · exact absurd (leaves_iff.mpr ⟨polled, after⟩) keeps
      · rfl

/-- A new map keeps the law once all have followed and the loop has been woken. -/
theorem TrackLaw.followed (h : TrackLaw s) (f : Followed m s t) : TrackLaw (wakeLoop t) := by
  obtain ⟨fits, clear, -⟩ := trackLaw_iff.mp h
  exact (f.fits fits).wakeLoop (clear.of_lists f.race fun j none => by rw [f.lists, none])

theorem Followed.of_track (f : Followed m s t) {u : State} (e : u.track = t.track) : Followed m s u := by
  obtain ⟨race, map, lists, switches, loop⟩ := track_eq_iff.mp e
  exact ⟨race.trans f.race, map.trans f.map, lists.trans f.lists, switches ▸ f.switches, loop ▸ f.nodes,
    loop ▸ f.urgent, loop ▸ f.once, loop ▸ f.run, loop ▸ f.exchange⟩

theorem loadMap_followed (m : TrackMap) (s : State) : Followed m s (loadMap m s) := by
  rw [loadMap_eq]
  refine ⟨rfl, rfl, rfl, fun j => updateAll_get _ _ j, fun a => updateAll_get _ _ a, fun j => ?_, fun once => ?_,
    rfl, rfl⟩
  · cases comes : enters s.map m (switchNode j) with
    | false => simp [comes]
    | true =>
      have stays : leaves s.map m (switchNode j) = false :=
        Bool.eq_false_iff.mpr fun goes => by simp [enters_of_leaves goes] at comes
      by_cases on : j ∈ s.loop.urgent <;> simp [comes, stays, on]
  · refine (once.filter _).append (switchNos_nodup.filter _) fun j old new => ?_
    simp_all

theorem TrackLaw.applyLoad (h : TrackLaw s) (i : Image) : TrackLaw (applyLoad i s) := by
  rw [applyLoad_eq]
  refine h.followed ((loadMap_followed i.map s).of_track ?_)
  rw [loadMap_eq]
  rfl

/-- A node whose used field is written as it was neither enters nor leaves. -/
theorem stays_of_same {old m : TrackMap} {a : NodeNo} (same : m.polled a = old.polled a) :
    enters old m a = false ∧ leaves old m a = false := by
  unfold enters leaves
  rw [same]
  cases old.polled a <;> exact ⟨rfl, rfl⟩

/-- Where one node alone may follow, marking its exchange is marking each that leaves. -/
theorem followedExchange_eq {old : TrackMap} {b : NodeNo} (others : ∀ a, a ≠ b → m.polled a = old.polled a)
    (x : Option Exchange) : followedExchange old m x b =
      x.map fun y => if leaves old m y.node then { y with discard := true } else y := by
  unfold followedExchange
  cases x with
  | none => split <;> rfl
  | some y =>
    by_cases same : y.node = b
    · subst same
      split <;> simp [Exchange.leaving, *]
    · have stays := (stays_of_same (others _ same)).2
      split <;> simp [Exchange.leaving, same, stays]

theorem followedNode_stays {old : TrackMap} {a : NodeNo} (same : m.polled a = old.polled a) (r : NodeRecord) :
    followedNode old m a r = r := by
  obtain ⟨here, there⟩ := stays_of_same same
  simp [followedNode, here, there]

theorem followedSwitch_stays {old : TrackMap} {j : SwitchNo}
    (same : m.polled (switchNode j) = old.polled (switchNode j))
    (clock : Time) (r : SwitchRun) : followedSwitch old m clock j r = r := by
  obtain ⟨here, there⟩ := stays_of_same same
  simp [followedSwitch, here, there]

theorem switchNode_injective {i j : SwitchNo} (same : switchNode i = switchNode j) : i = j :=
  Fin.ext (show (switchNode i).val = (switchNode j).val by rw [same])

/-- Writing one switch record leaves every other node in or out of the polled set (R132). -/
theorem polled_writeSwitch (old : TrackMap) (j : SwitchNo) (r : Switch) (a : NodeNo) (other : a ≠ switchNode j) :
    { old with switches := update old.switches j fun _ => r }.polled a = old.polled a := by
  unfold TrackMap.polled
  split
  · next i own =>
    have apart : i ≠ j := fun same => other (same ▸ nodeSwitch_eq_some own)
    exact congrArg Switch.used (update_other old.switches _ apart)
  · rfl

theorem gateNode_of_none {a : NodeNo} (gate : nodeSwitch a = none) :
    ∃ g : Fin 16, a = gateNode g ∧ a.val - 24 = g.val := by
  unfold nodeSwitch at gate
  split at gate
  · cases gate
  · next high => exact ⟨⟨a.val - 24, by omega⟩, Fin.ext (by simp [gateNode]; omega), rfl⟩

/-- Writing one gate record leaves every other node in or out of the polled set (R132). -/
theorem polled_writeGate (old : TrackMap) (g : Fin 16) (r : Gate) (a : NodeNo) (other : a ≠ gateNode g) :
    { old with gates := update old.gates g fun _ => r }.polled a = old.polled a := by
  unfold TrackMap.polled
  split
  · rfl
  · next gate =>
    obtain ⟨i, own, number⟩ := gateNode_of_none gate
    have apart : i ≠ g := fun same => other (same ▸ own)
    rw [number]
    have entry := update_other old.gates (fun _ => r) apart
    simp only [TrackMap.gate, Vector.getElem?_eq_getElem, i.isLt, Option.getD_some]
    exact congrArg Gate.used entry

/-- A written switch record is followed at its own switch. -/
theorem followSwitchUse_followed {j : SwitchNo} (others : ∀ a, a ≠ switchNode j → m.polled a = s.map.polled a) :
    Followed m s (followSwitchUse (s.map.switch j).used (m.switch j).used j (mapWriteEffects { s with map := m })) := by
  rw [followSwitchUse_eq (old := s.map) (m := m) rfl]
  refine ⟨rfl, rfl, rfl, fun i => ?_, fun a => ?_, fun i => ?_, fun once => ?_, rfl, followedExchange_eq others _⟩
  · show (update s.switches j (followedSwitch s.map m s.clock j))[i] = _
    rw [update_get]
    split
    · next same => rw [same]
    · next other => exact (followedSwitch_stays (others _ fun same => other (switchNode_injective same)) _ _).symm
  · show (update s.loop.nodes (switchNode j) (followedNode s.map m (switchNode j)))[a] = _
    rw [update_get]
    split
    · next same => rw [same]
    · next other => exact (followedNode_stays (others a other) _).symm
  · show i ∈ followedUrgent s.map m s.loop.urgent j ↔ _
    by_cases same : i = j
    · subst same
      unfold followedUrgent
      cases comes : enters s.map m (switchNode i) <;> cases goes : leaves s.map m (switchNode i) <;>
        by_cases on : i ∈ s.loop.urgent <;> simp [on]
    · have stays := stays_of_same (others _ fun e => same (switchNode_injective e))
      unfold followedUrgent
      split
      · split <;> simp [same, stays]
      · split <;> simp [same, stays]
  · show (followedUrgent s.map m s.loop.urgent j).Nodup
    unfold followedUrgent
    split
    · split
      · exact once
      · next new => exact once.append (List.nodup_singleton j) (by simpa using new)
    · split
      · exact once.filter _
      · exact once

/-- A written gate record is followed at its own node. -/
theorem followGateUse_followed {g : Fin 16} (others : ∀ a, a ≠ gateNode g → m.polled a = s.map.polled a) :
    Followed m s
      (followGateUse (s.map.gate g.val).used (m.gate g.val).used g (mapWriteEffects { s with map := m })) := by
  have switches (j : SwitchNo) : m.polled (switchNode j) = s.map.polled (switchNode j) :=
    others _ fun same => by
      have own := nodeSwitch_gateNode g
      rw [← same, nodeSwitch_switchNode] at own
      cases own
  rw [followGateUse_eq s.map m]
  refine ⟨rfl, rfl, rfl, fun j => ?_, fun a => ?_, fun j => ?_, id, rfl, followedExchange_eq others _⟩
  · exact (followedSwitch_stays (switches j) _ _).symm
  · show (update s.loop.nodes (gateNode g) (followedNode s.map m (gateNode g)))[a] = _
    rw [update_get]
    split
    · next same => rw [same]
    · next other => exact (followedNode_stays (others a other) _).symm
  · show j ∈ s.loop.urgent ↔ _
    obtain ⟨here, there⟩ := stays_of_same (switches j)
    simp [here, there]

theorem TrackLaw.storeSwitch (h : TrackLaw s) (j : SwitchNo) (r : Switch) : TrackLaw (storeSwitch j r s) := by
  have followed := followSwitchUse_followed (s := s) (polled_writeSwitch s.map j r)
  have written : ({ s.map with switches := update s.map.switches j fun _ => r } : TrackMap).switch j = r :=
    update_same s.map.switches j fun _ => r
  rw [written] at followed
  exact h.followed followed

theorem TrackLaw.storeGate (h : TrackLaw s) (g : Fin 16) (r : Gate) : TrackLaw (storeGate g r s) := by
  have followed := followGateUse_followed (s := s) (polled_writeGate s.map g r)
  have written : ({ s.map with gates := update s.map.gates g fun _ => r } : TrackMap).gate g.val = r := by
    simp only [TrackMap.gate, Vector.getElem?_eq_getElem, g.isLt, Option.getD_some]
    exact update_same s.map.gates g fun _ => r
  rw [written] at followed
  exact h.followed followed

end Maps

/-! ### The statement -/

theorem TrackLaw.modifyCounts {s : State} (h : TrackLaw s) (j : SwitchNo) {f : SwitchRun → SwitchRun}
    (counts : CountsOnly f) : TrackLaw (s.modifySwitch j f) := by
  have fits := (trackLaw_iff.mp h).1
  obtain ⟨lawful, atRest, thrown, urgent⟩ := fits.switches j
  obtain ⟨state, commanded, confirmed, deadline⟩ := counts s.switches[j]
  refine h.of_switches rfl ((OnlyAt.modifySwitch j f s).fits fits ?_) fun _ none => none
  rw [State.modifySwitch_switches, update_same]
  refine ⟨fun use => ?_, fun unused => ?_, fun c => thrown (commanded ▸ c), fun on => ?_⟩
  · have k := lawful use
    unfold SwitchRun.lawful at k ⊢
    rwa [state, commanded, confirmed, deadline]
  · have k := atRest unused
    unfold SwitchRun.atRest at k ⊢
    rwa [state, commanded, confirmed, deadline]
  · rw [state]; exact urgent on

theorem TrackLaw.withRace {s : State} (h : TrackLaw s) {race : RaceState}
    (clear : race = .setup ∨ race = .halt → ∀ j : SwitchNo, s.lists[j] = []) : TrackLaw { s with race := race } :=
  ⟨h.used, h.unused, h.thrown, clear, h.urgentUsed, h.urgentOnce, h.urgentRun, h.polled, h.exchange, h.idle⟩

/-- Replacing the map without a change of the polled set keeps the law. -/
theorem TrackLaw.withMap {s : State} (h : TrackLaw s) {m : TrackMap} (same : m.polled = s.map.polled) :
    TrackLaw { s with map := m } := by
  have use (j : SwitchNo) : (m.switch j).used = (s.map.switch j).used := by
    rw [← m.polled_switchNode, same, s.map.polled_switchNode]
  refine ⟨fun j => ?_, fun j => ?_, h.thrown, h.empty, fun j on => ?_, h.urgentOnce, h.urgentRun, ?_, ?_, ?_⟩
  · show (m.switch j).used = true → _
    rw [use]; exact h.used j
  · show (m.switch j).used = false → _
    rw [use]; exact h.unused j
  · show (m.switch j).used = true ∧ _
    rw [use]; exact h.urgentUsed j on
  · show ∀ a : NodeNo, _ ↔ m.polled a = false
    rw [same]; exact h.polled
  · show ∀ x : Exchange, _ → _ → m.polled x.node = true
    rw [same]; exact h.exchange
  · show _ → ∀ a : NodeNo, m.polled a = false
    rw [same]; exact h.idle

theorem trackLaw_kept : TrackKept (fun m a => m.polled a = true) TrackLaw where
  outside h e := h.of_track e
  powerOn _ _ := trackLaw_reset.of_track rfl
  polledUsed {m j} use := (m.polled_switchNode j).trans use
  polledExchange h flying counts := h.exchange _ flying counts
  polledDeadline {s j} h pending := by
    rw [s.map.polled_switchNode, ← Bool.not_eq_false]
    exact fun unused => pending (h.unused j unused).2.2.2
  runs h r := h.withRace fun still => by obtain rfl | rfl := r <;> simp at still
  setsUp h halted := h.withRace fun _ => h.empty (.inr halted)
  halts h e := h.halt e
  restarts {s} h halted := by
    have none := h.empty (.inr halted)
    refine h.of_track (track_eq_iff.mpr ⟨rfl, rfl, table_ext fun j => ?_, rfl, rfl⟩)
    rw [none j]
    exact updateAll_get s.lists (fun _ _ => []) j
  surveys h same := h.withMap same
  storesSwitch j r h := h.storeSwitch j r
  storesGate g r h := h.storeGate g r
  loads i h := h.applyLoad i
  shortens h sub e := h.shorten sub e
  settles {s k j t} h run polled := h.settle k t run (by rwa [s.map.polled_switchNode] at polled)
  counts {s j f} h only := h.modifyCounts j only
  faults {s j} cause h polled := h.enterFault (by rwa [s.map.polled_switchNode] at polled) cause
  takesPosition {s j} x h polled := h.takePosition (by rwa [s.map.polled_switchNode] at polled) x
  locks {s j} h polled := h.lockSwitch (by rwa [s.map.polled_switchNode] at polled)
  unlocks {s j} h polled := h.unlockSwitch (by rwa [s.map.polled_switchNode] at polled)
  clears {s j} h polled := h.clearSwitch (by rwa [s.map.polled_switchNode] at polled)
  stands {s a f} h stays := h.modifyNode a stays
  sends {s x t} h flying := h.withLoop rfl (fun _ => .rfl) h.urgentOnce h.urgentRun
    (fun y e counts => by obtain rfl := Option.some.inj e; exact h.exchange x flying counts) nofun
  moves x h := h.moveServed x
  arbitrates {s} h := (trackLaw_iff.mp h).1.arbitrate (trackLaw_iff.mp h).2.1

/-- Settles O54: every operation on the track keeps the law. -/
theorem trackLawKept : Obligations.TrackLawKept := trackLaw_kept.everyStep

end Sys2Proof.Machine
end

section
/-!
RSC's two ways into HALT: SET RACE STATE's and RAIL FAULT's. What the revocation of every list leaves, and that no
event of it takes the rail fault's flag down again.
-/

namespace Sys2Proof.Machine

/-! ### What is left of the switches' lists -/

section Revoked

variable {s t : State}

/-- Removing everything at every switch leaves no entry. -/
theorem Removes.all_empty (h : Removes (fun _ => []) switchNos s t) (j : SwitchNo) : t.lists[j] = [] := by
  rw [h.lists, if_pos (mem_switchNos j)]

variable {left : List Reservation → List Reservation}

/-- A switch whose list a removal empties while it is THROWN or THROWING is returned. -/
theorem Removes.returned (h : Removes left switchNos s t) {j : SwitchNo} (acts : emptiedAt left s j = true) :
    t.switches[j] = returning j s := by
  rw [h.switches, if_pos ⟨mem_switchNos j, acts⟩]

theorem Removes.stands (h : Removes left switchNos s t) {j : SwitchNo} (idle : emptiedAt left s j = false) :
    t.switches[j] = s.switches[j] := by
  rw [h.switches, if_neg fun acts => Bool.false_ne_true (idle.symm.trans acts.2)]

/-- Removals move lists, switch records, events and the urgent list, and of the last it is known how. -/
theorem Removes.frame (h : Removes left switchNos s t) :
    t = { s with
      lists := t.lists, switches := t.switches, events := t.events
      loop := { s.loop with
        urgent := s.loop.urgent ++ switchNos.filter fun j => emptiedAt left s j && decide (j ∉ s.loop.urgent) } } := by
  rw [← h.urgent]
  exact h.footprint

/-- A list that is emptied whatever it held was emptied when it had an entry. -/
theorem emptiedAt_nil (j : SwitchNo) : emptiedAt (fun _ => []) s j =
    (!s.lists[j].isEmpty && (s.switches[j].state == .thrown || s.switches[j].state == .throwing)) := by
  simp [emptiedAt, returns]

theorem emptiedAt_nil_iff (j : SwitchNo) : emptiedAt (fun _ => []) s j = true ↔
    s.lists[j] ≠ [] ∧ (s.switches[j].state = .thrown ∨ s.switches[j].state = .throwing) := by
  rw [emptiedAt_nil]
  simp [-Fin.getElem_fin]

end Revoked

/-- Intents are cleared before or after RACE_STATE is raised: the event does not tell of them. -/
theorem haltRace_eq (cause : RaceCause) (s : State) : haltRace cause s = revokeAllLists
    (raise (.raceState s.race .halt cause) { s with
      race := .halt, cars := Vector.ofFn fun c : CarNo => { s.cars[c] with intent := none } }) :=
  congrArg revokeAllLists rfl

theorem haltRequest_running {s : State} (running : s.race ≠ .halt) :
    haltRequest s = accept (haltRace .halt s) := by
  unfold haltRequest
  split
  · next halted => exact absurd halted running
  all_goals rfl

/-- Settles O18: SET RACE STATE is served by its owner, and the rest is what a removal of every entry at every switch
comes to. -/
theorem haltClearsTheField : Obligations.HaltClearsTheField := by
  refine ⟨fun s frame running => ?_, fun u => ?_⟩
  · rw [← haltRace_eq]
    exact exec_owner (x := .halt) frame rfl rfl rfl rfl (haltRequest_running running)
  · have done := revokeAllLists_removes u
    simp only [← emptiedAt_nil]
    exact ⟨rfl, fun cause j => ⟨revokeList_nil cause, fun e es list => revokeList_cons cause list⟩,
      done.all_empty, fun j => done.returned, fun j => done.stands, done.frame⟩

/-! ### The rail fault's flag -/

section Footprint

variable {s t : State} (h : SwitchFootprint s t)

include h

theorem SwitchFootprint.railHold_eq : t.railHold = s.railHold := by rw [h]

theorem SwitchFootprint.race_eq : t.race = s.race := by rw [h]

theorem SwitchFootprint.cars_eq : t.cars = s.cars := by rw [h]

theorem SwitchFootprint.loop_eq : t.loop = { s.loop with urgent := t.loop.urgent } := by
  conv_lhs => rw [h]

end Footprint

/-- Every port's sticky flags show the rail fault (R196). -/
def RailFlagged (s : State) : Prop := ∀ p : Port, (s.events.get p).flags.railFault = true

/-- An event sets sticky flags and takes none down. -/
theorem RailFlagged.raise {s : State} (h : RailFlagged s) (e : Event) : RailFlagged (raise e s) := by
  have marked (f : StickyFlags) : (f.markedBy e).railFault = f.railFault := by
    unfold StickyFlags.markedBy
    split <;> rfl
  have offered (q : EventPort) (r : EventRecord) : (q.offer r).flags.railFault = q.flags.railFault := by
    unfold EventPort.offer
    split
    · split <;> rfl
    · rfl
  intro p
  unfold Machine.raise
  rw [PerPort.get_map, offered]
  exact (marked _).trans (h p)

theorem RailFlagged.tellRevoked {s : State} (h : RailFlagged s) (cause : RevokeCause) (j : SwitchNo)
    (l : List Reservation) : RailFlagged (tellRevoked cause j l s) :=
  foldl_keeps (fun s t => RailFlagged s → RailFlagged t) (fun _ h => h) (fun a b h => b (a h)) _
    (fun _ _ h => h.raise _) l s h

theorem RailFlagged.returnRequest {s : State} (h : RailFlagged s) (j : SwitchNo) :
    RailFlagged (returnRequest j s) := by
  cases acts : returns j s with
  | true => rw [returnRequest_taken acts]; exact RailFlagged.raise (s := { s with
      switches := _, loop := _ }) h _
  | false => rw [returnRequest_ignored acts]; exact h

theorem RailFlagged.revokeList {s : State} (h : RailFlagged s) (cause : RevokeCause) (j : SwitchNo) :
    RailFlagged (revokeList cause j s) := by
  cases list : s.lists[j] with
  | nil => rwa [revokeList_nil cause list]
  | cons e es =>
    rw [revokeList_cons cause list]
    exact (RailFlagged.tellRevoked (s := s.setList j []) h cause j _).returnRequest j

theorem RailFlagged.revokeAllLists {s : State} (h : RailFlagged s) : RailFlagged (revokeAllLists s) :=
  foldl_keeps (fun s t => RailFlagged s → RailFlagged t) (fun _ h => h) (fun a b h => b (a h)) _
    (fun _ j h => h.revokeList .halt j) switchNos s h

/-! ### RAIL FAULT and RAIL CLEAR (R169, R170) -/

section Rail

variable (s : State)

/-- A rail fault latched: the hold, the flag on every port, and RAIL_FAULT. -/
def railLatched : State :=
  raise (.railFault s.race) (flagAllPorts (fun f => { f with railFault := true }) { s with railHold := true })

theorem railLatched_flagged : RailFlagged (railLatched s) :=
  RailFlagged.raise (fun p => by simp [flagAllPorts]) _

variable {s}

theorem takeRailFault_still (still : s.race = .setup ∨ s.race = .halt) : takeRailFault s = railLatched s := by
  unfold takeRailFault railLatched
  obtain race | race := still <;> rw [race]

theorem takeRailFault_running (running : s.race = .run ∨ s.race = .caution) :
    takeRailFault s = haltRace .rail (railLatched s) := by
  unfold takeRailFault railLatched
  obtain race | race := running <;> rw [race]

end Rail

/-- Settles O20: the latch by itself, the revocation that follows it in a running race, and the two answers of RAIL
CLEAR. -/
theorem railFaultAndClear : Obligations.RailFaultAndClear := by
  intro s latched
  refine ⟨fun frame => ⟨fun still => ?_, fun running => ?running⟩, fun frame => ⟨fun held => ?_, fun free => ?_⟩⟩
  case running =>
    intro u
    have halted : takeRailFault s = u := (takeRailFault_running running).trans (haltRace_eq .rail _)
    let raced := raise (.raceState s.race .halt .rail) { railLatched s with
      race := .halt, cars := Vector.ofFn fun c : CarNo => { s.cars[c] with intent := none } }
    have done : Removes (fun _ => []) switchNos raced u := revokeAllLists_removes raced
    have flagged : RailFlagged raced :=
      RailFlagged.raise (s := { railLatched s with race := _, cars := _ }) (railLatched_flagged s) _
    have flagged : RailFlagged u := flagged.revokeAllLists
    have emptied (j : SwitchNo) : emptiedAt (fun _ => []) raced j = emptiedAt (fun _ => []) s j := rfl
    clear_value u
    have frame_u := done.footprint
    have cars : u.cars = raced.cars := frame_u.cars_eq
    refine ⟨?_, frame_u.railHold_eq, frame_u.race_eq, flagged, fun c => ?_, done.all_empty, fun j both => ?_,
      fun j not => ?_, frame_u.loop_eq, ?_⟩
    · exact exec_owner (x := .railFault) (body := []) frame rfl rfl rfl rfl (congrArg accept halted)
    · rw [cars]
      simp [raced]
    · have acts := (emptied j).trans ((emptiedAt_nil_iff j).mpr both)
      refine ⟨done.returned acts, ?_⟩
      rw [done.urgent, List.mem_append, List.mem_filter]
      by_cases on : j ∈ raced.loop.urgent
      · exact .inl on
      · exact .inr ⟨mem_switchNos j, by simp [acts, on]⟩
    · have idle : emptiedAt (fun _ => []) raced j = false := by
        rw [emptied, ← Bool.not_eq_true, emptiedAt_nil_iff]
        exact not
      exact done.stands idle
    · rw [cars, frame_u.loop_eq]
      exact frame_u
  · exact exec_owner (x := .railFault) (body := []) frame rfl rfl rfl rfl
      (congrArg accept (takeRailFault_still still))
  · exact exec_owner (x := .railClear) (body := []) frame rfl rfl rfl rfl (if_pos held)
  · exact exec_owner (x := .railClear) (body := []) frame rfl rfl rfl rfl
      (if_neg (Bool.not_eq_true _ ▸ free))

end Sys2Proof.Machine
end

section
/-!
How reservations end (R84, R101 to R103, R120): a removal at one switch with its return request, and the expiry,
superseding and the passage that lead to one.
-/

namespace Sys2Proof.Machine

section Ends

variable {s u : State} {j : SwitchNo} {k : CarNo} {l : List Reservation}

/-- The return request goes out by what the list has come to. -/
theorem returnIfEmpty_of_list (list : u.lists[j] = l) :
    returnIfEmpty j u = if l = [] then returnRequest j u else u := by
  unfold returnIfEmpty
  rw [list]
  simp only [List.isEmpty_iff]

theorem setList_list : (s.setList j l).lists[j] = l := update_same s.lists j _

/-! ### The stale time (R103) -/

theorem staleEntry_none {clock : Time} {c : CarNo} (gone : ∀ e ∈ l, e.car ≠ c) : staleEntry clock c l = none := by
  refine List.find?_eq_none.mpr fun e on stale => gone e on ?_
  simpa using (Bool.and_eq_true_iff.mp stale).1

section Stale

variable {clock : Time} {c : CarNo} {e : Reservation} {before after : List Reservation} (mine : e.car = c)
  (others : ∀ x ∈ before ++ after, x.car ≠ c)

include mine others

/-- A car's one entry is stale once its time has come. -/
theorem staleEntry_only : staleEntry clock c (before ++ e :: after) =
    if reached clock e.staleAt then some e else none := by
  have absent (l : List Reservation) (sub : ∀ x ∈ l, x ∈ before ++ after) : staleEntry clock c l = none :=
    staleEntry_none fun x on => others x (sub x on)
  have front := absent before fun x on => List.mem_append_left after on
  have back := absent after fun x on => List.mem_append_right before on
  unfold staleEntry at *
  rw [List.find?_append, front, Option.none_or, List.find?_cons, back]
  subst mine
  cases reached clock e.staleAt <;> simp

theorem erase_only : (before ++ e :: after).erase e = before ++ after := by
  have absent : e ∉ before := fun on => others e (List.mem_append_left after on) mine
  rw [List.erase_append_right (e :: after) absent, List.erase_cons_head]

end Stale

theorem exec_staleExpiry_none {c : CarNo} (running : s.resetHeld = false)
    (none : staleEntry s.clock c s.lists[j] = none) : exec (.staleExpiry j c) s = .next s := by
  have answered : execStaleExpiry j c s = .next s := by
    unfold execStaleExpiry
    rw [whenRunning_running running, none]
  exact answered

theorem exec_staleExpiry_some {c : CarNo} {e : Reservation} (running : s.resetHeld = false)
    (stale : staleEntry s.clock c s.lists[j] = some e) (rest : s.lists[j].erase e = l) :
    exec (.staleExpiry j c) s =
      .next (if l = [] then returnRequest j (raise (.staleRes c j e.exitAt) (s.setList j l))
        else raise (.staleRes c j e.exitAt) (s.setList j l)) := by
  have answered : execStaleExpiry j c s =
      .next (returnIfEmpty j (raise (.staleRes c j e.exitAt) (s.setList j l))) := by
    unfold execStaleExpiry
    rw [whenRunning_running running, stale, ← rest]
  refine Eq.trans answered ?_
  rw [returnIfEmpty_of_list (u := raise _ _) setList_list]

/-! ### A passage (R102, R120) -/

/-- A car's passage without an entry is carried by the thrown exit, and nothing more by the straight one. -/
theorem takePassage_free (none : ∀ e ∈ u.lists[j], e.car ≠ k) (thrownExit : Bool) :
    takePassage k j thrownExit u =
      if thrownExit then raise (.carried k j u.switches[j].state) u else u := by
  have free : ¬holdsEntry u.lists[j] k = true := fun holds => by
    obtain ⟨e, on, mine⟩ := holdsEntry_iff.mp holds
    exact none e on mine
  unfold takePassage
  rw [if_neg free]

/-- By the thrown exit the car's entry has done its work. -/
theorem takePassage_thrown (holds : ∃ e ∈ u.lists[j], e.car = k) :
    takePassage k j true u =
      if withoutCar u.lists[j] k = [] then returnRequest j (u.setList j (withoutCar u.lists[j] k))
      else u.setList j (withoutCar u.lists[j] k) := by
  unfold takePassage
  rw [if_pos (holdsEntry_iff.mpr holds)]
  exact returnIfEmpty_of_list setList_list

/-- By the straight exit the car was misrouted. -/
theorem takePassage_straight (holds : ∃ e ∈ u.lists[j], e.car = k) :
    let n := bump 255 u.cars[k].misroutes
    let v := raise (.misroute k j n)
      ((u.setList j (withoutCar u.lists[j] k)).modifyCar k fun c => { c with misroutes := n })
    takePassage k j false u = if withoutCar u.lists[j] k = [] then returnRequest j v else v := by
  intro n v
  unfold takePassage
  rw [if_pos (holdsEntry_iff.mpr holds)]
  have counted : ((u.setList j (withoutCar u.lists[j] k)).modifyCar k fun c =>
      { c with misroutes := bump 255 c.misroutes }).cars[k].misroutes = n := by
    exact congrArg Car.misroutes (update_same u.cars k _)
  simp only [counted]
  exact returnIfEmpty_of_list setList_list

end Ends

/-- One switch's superseding, with the tests written out. -/
theorem supersedeAt_eq (k : CarNo) (j : SwitchNo) (x : State) : supersedeAt k j x =
    if x.lists[j].any (fun e => e.car == k) then
      if withoutCar x.lists[j] k = []
        then returnRequest j (raise (.revoked k j .superseded) (x.setList j (withoutCar x.lists[j] k)))
        else raise (.revoked k j .superseded) (x.setList j (withoutCar x.lists[j] k))
    else x := by
  unfold supersedeAt
  rw [returnIfEmpty_of_list (u := raise _ _) setList_list]
  rfl

/-- Settles O46: a stale time by whether the car's one entry has reached it, superseding by the removal at every
switch, a passage by whether the car has an entry and by the exit. -/
theorem reservationsEnd : Obligations.ReservationsEnd := by
  refine ⟨fun j c s running => ⟨fun gone => ?_, fun e before after list mine others =>
      ⟨fun early => ?_, fun late => ?_⟩⟩,
    fun k s => ?_, fun k j s => ⟨fun free => ⟨?_, ?_⟩, fun holds => ⟨?_, ?_⟩⟩⟩
  · exact exec_staleExpiry_none running (staleEntry_none gone)
  · refine exec_staleExpiry_none running ?_
    rw [list, staleEntry_only mine others, early]
    rfl
  · refine exec_staleExpiry_some running ?_ ?_
    · rw [list, staleEntry_only mine others, late]
      rfl
    · rw [list, erase_only mine others]
  · have done := supersede_removes k s
    refine ⟨?_, fun j => ?_, fun j => done.returned, fun j => done.stands, done.frame⟩
    · show switchNos.foldl _ s = _
      simp only [supersedeAt_eq]
      rfl
    · exact (done.lists j).trans (if_pos (mem_switchNos j))
  · exact takePassage_free (u := s.modifySwitch j _) free false
  · refine (takePassage_free (u := s.modifySwitch j _) free true).trans ?_
    rw [if_pos rfl, show (s.modifySwitch j _).switches[j] = _ from update_same s.switches j _]
    rfl
  · exact takePassage_thrown (u := s.modifySwitch j _) holds
  · exact takePassage_straight (u := s.modifySwitch j _) holds

end Sys2Proof.Machine
end

section
/-!
SWC's faults and locks (R104, R117, R118, R121 to R124): the record that each leaves, and that the list of a switch
that is neither THROWN nor THROWING is revoked without a return request.
-/

namespace Sys2Proof.Machine

section Closing

variable {j : SwitchNo} {s : State}

/-! ### The records -/

/-- A change of state on top of a command: one record, one event, and the place on the urgent list. -/
theorem changeState_commandPosition (x : Position) (y : SwitchState) (cause : SwitchCause) :
    changeState j y cause (commandPosition j x s) =
      raise (.switchState j s.switches[j].state y cause s.switches[j].confirmed) { s with
        switches := s.switches.set j { s.switches[j] with
          state := y, commanded := x
          deadline := some (later s.clock ((s.map.switch j).actuation + 200))
          throwCount := if y = .throwing then bump 65535 s.switches[j].throwCount else s.switches[j].throwCount
          faultCount := if y = .fault then bump 255 s.switches[j].faultCount else s.switches[j].faultCount }
        loop := { s.loop with urgent := if j ∈ s.loop.urgent then s.loop.urgent else s.loop.urgent ++ [j] } } := by
  rw [commandPosition_eq, changeState_eq]
  simp

/-- The state in which a switch has entered FAULT, its list not yet revoked (R118). -/
def faultEntered (j : SwitchNo) (s : State) : State := { s with
  switches := s.switches.set j { s.switches[j] with
    state := .fault, commanded := .straight, deadline := none, faultCount := bump 255 s.switches[j].faultCount }
  loop := { s.loop with urgent := s.loop.urgent.filter (· != j) } }

theorem enterFault_eq {cause : SwitchCause} (sound : s.switches[j].state ≠ .fault) : enterFault j cause s =
    revokeList .fault j
      (raise (.switchState j s.switches[j].state .fault cause s.switches[j].confirmed) (faultEntered j s)) := by
  unfold enterFault
  rw [if_neg sound]
  refine congrArg (revokeList .fault j) ?_
  rw [changeState_eq]
  simp [leaveUrgent, State.modifySwitch, faultEntered, update]

theorem faultEntered_stands : returns j (faultEntered j s) = false := by
  simp [returns, faultEntered]

/-! ### Revoking a list at a switch that does not return -/

/-- No return request is taken: only the list and the events move. -/
theorem revokeList_stands (cause : RevokeCause) (idle : returns j s = false) :
    revokeList cause j s = { s with
      lists := (revokeList cause j s).lists, events := (revokeList cause j s).events } := by
  cases list : s.lists[j] with
  | nil => rw [revokeList_nil cause list]
  | cons e es =>
    have told := tellRevoked_footprint cause j (e :: es) (s.setList j [])
    have ignored : returns j (tellRevoked cause j (e :: es) (s.setList j [])) = false := by rw [told]; exact idle
    rw [revokeList_cons cause list, returnRequest_ignored ignored]
    conv_lhs => rw [told]
    conv_rhs => rw [told]
    rfl

end Closing

/-! ### The three requests (R121) -/

section Requests

variable {s : State} {j : SwitchNo} {act : SwitchNo → State → State × Reply}

theorem switchRequest_above {n : Nat} (hn : n ≤ 255) (above : 24 ≤ n) :
    switchRequest act [byte n] s = refuse .range s := by
  simp only [switchRequest, numbered_none hn above]

theorem switchRequest_inTable :
    switchRequest act [byte j.val] s = if (s.map.switch j).used then act j s else refuse .state s := by
  simp only [switchRequest, numbered_byte (show 24 ≤ 256 by decide) j.isLt]

/-- What the owner of the three requests answers whatever the act is. -/
theorem exec_switchRequest {x : Request} {b : Byte} {t : State} {r : Reply}
    (three : x ∈ [Request.lockSwitch, .unlockSwitch, .clearSwitch]) (frame : FrameEnded .console x.code [b] s)
    (answer : ∀ act, switchRequest act [b] s = (t, r)) :
    exec (x.instr .console) s = .next (withReply .console r.status.code r.body t) := by
  simp only [List.mem_cons, List.not_mem_nil, or_false] at three
  obtain rfl | rfl | rfl := three
  · exact exec_owner frame rfl rfl rfl rfl (answer lockSwitch)
  · exact exec_owner frame rfl rfl rfl rfl (answer unlockSwitch)
  · exact exec_owner frame rfl rfl rfl rfl (answer clearSwitch)

variable {t : State} {r : Reply} (used : (s.map.switch j).used = true)

include used

theorem switchRequest_used : switchRequest act [byte j.val] s = act j s :=
  switchRequest_inTable.trans (if_pos used)

theorem exec_lockSwitch (frame : FrameEnded .console 0x60 [byte j.val] s) (answer : lockSwitch j s = (t, r)) :
    exec (.lockSwitch .console) s = .next (withReply .console r.status.code r.body t) :=
  exec_owner (x := .lockSwitch) frame rfl rfl rfl rfl ((switchRequest_used used).trans answer)

theorem exec_unlockSwitch (frame : FrameEnded .console 0x61 [byte j.val] s)
    (answer : unlockSwitch j s = (t, r)) :
    exec (.unlockSwitch .console) s = .next (withReply .console r.status.code r.body t) :=
  exec_owner (x := .unlockSwitch) frame rfl rfl rfl rfl ((switchRequest_used used).trans answer)

theorem exec_clearSwitch (frame : FrameEnded .console 0x62 [byte j.val] s)
    (answer : clearSwitch j s = (t, r)) :
    exec (.clearSwitch .console) s = .next (withReply .console r.status.code r.body t) :=
  exec_owner (x := .clearSwitch) frame rfl rfl rfl rfl ((switchRequest_used used).trans answer)

end Requests

/-! ### LOCK, UNLOCK and CLEAR SWITCH by the switch's state (R122 to R124) -/

section Acts

variable {j : SwitchNo} {s : State}

theorem lockSwitch_closed (closed : s.switches[j].state = .locked ∨ s.switches[j].state = .fault) :
    lockSwitch j s = noChange s := by
  unfold lockSwitch
  obtain state | state := closed <;> rw [state] <;> rfl

/-- The state in which a switch has become LOCKED, its list not yet revoked; one that was not STRAIGHT is commanded
to it (R122). -/
def lockEntered (j : SwitchNo) (s : State) : State :=
  if s.switches[j].state = .straight then
    { s with switches := s.switches.set j { s.switches[j] with state := .locked } }
  else { s with
    switches := s.switches.set j { s.switches[j] with
      state := .locked, commanded := .straight
      deadline := some (later s.clock ((s.map.switch j).actuation + 200)) }
    loop := { s.loop with urgent := if j ∈ s.loop.urgent then s.loop.urgent else s.loop.urgent ++ [j] } }

theorem lockSwitch_open (unlocked : s.switches[j].state ≠ .locked) (sound : s.switches[j].state ≠ .fault) :
    lockSwitch j s = accept (revokeList .lock j
      (raise (.switchState j s.switches[j].state .locked .lock s.switches[j].confirmed) (lockEntered j s))) := by
  by_cases straight : s.switches[j].state = .straight
  · have locks : lockSwitch j s = accept (becomeLocked j s) := by
      unfold lockSwitch
      rw [straight]
    rw [locks, lockEntered, if_pos straight]
    rfl
  · have locks : lockSwitch j s = accept (becomeLocked j (commandPosition j .straight s)) := by
      unfold lockSwitch
      split <;> first | rfl | contradiction
    rw [locks, lockEntered, if_neg straight, becomeLocked, changeState_commandPosition]
    rfl

theorem lockEntered_lists : (lockEntered j s).lists = s.lists := by
  unfold lockEntered
  split <;> rfl

theorem lockEntered_stands : returns j (lockEntered j s) = false := by
  have state : (lockEntered j s).switches[j].state = .locked := by
    unfold lockEntered
    split <;> simp
  unfold returns
  rw [state]
  rfl

theorem unlockSwitch_open (unlocked : s.switches[j].state ≠ .locked) : unlockSwitch j s = noChange s := by
  unfold unlockSwitch
  dsimp only
  split
  · next locked => exact absurd locked unlocked
  all_goals rfl

theorem unlockSwitch_locked (locked : s.switches[j].state = .locked) : unlockSwitch j s = accept
    (changeState j (if s.switches[j].confirmed = .straight ∧ s.switches[j].deadline = none then .straight
      else .returning) .unlock s) := by
  unfold unlockSwitch
  dsimp only
  rw [locked]
  dsimp only
  split <;> rfl

theorem clearSwitch_sound (sound : s.switches[j].state ≠ .fault) : clearSwitch j s = noChange s := by
  unfold clearSwitch
  split
  · next fault => exact absurd fault sound
  all_goals rfl

theorem clearSwitch_fault (fault : s.switches[j].state = .fault) : clearSwitch j s =
    if s.loop.nodes[switchNode j].state = .fault then refuse .state s
    else accept (changeState j .returning .clear (commandPosition j .straight s)) := by
  unfold clearSwitch
  rw [fault]

end Acts

/-- Settles O49: the fault's record and the revocation behind it, the deadline by what is due, the refusals, and the
three requests by the switch's state. -/
theorem faultsAndLocks : Obligations.FaultsAndLocks := by
  intro j s r deadline joined commanded
  refine ⟨fun cause => ⟨fun fault => ?_, fun sound => ?_⟩, fun running => ⟨fun early => ?_, fun t pending late => ?_⟩,
    fun x three n hn frame => ⟨fun above => ?_, fun same unused => ?_⟩, fun used => ⟨fun frame => ?lock,
      fun frame => ?unlock, fun frame => ?clear⟩⟩
  · exact if_pos fault
  · refine ⟨enterFault_eq sound, ?_, ?_⟩
    · rw [enterFault_eq sound, revokeList_lists]
      rfl
    · rw [enterFault_eq sound]
      exact revokeList_stands (s := raise _ (faultEntered j s)) .fault faultEntered_stands
  · exact (whenRunning_running running _).trans (congrArg _ (if_neg (not_due_of_all early)))
  · refine (whenRunning_running running _).trans (congrArg _ (if_pos ?_))
    rw [show s.switches[j].deadline = some t from pending]
    exact late
  · exact exec_switchRequest three frame fun _ => switchRequest_above hn above
  · subst same
    exact exec_switchRequest three frame fun _ => switchRequest_inTable.trans (if_neg (by rw [unused]; nofun))
  case lock =>
    refine ⟨fun closed => exec_lockSwitch used frame (lockSwitch_closed closed), fun unlocked sound => ?_⟩
    refine ⟨exec_lockSwitch used frame (lockSwitch_open unlocked sound), ?_, ?_⟩
    · rw [revokeList_lists]
      exact congrArg (·.set j []) lockEntered_lists
    · exact revokeList_stands (s := raise _ (lockEntered j s)) .lock lockEntered_stands
  case unlock =>
    refine ⟨fun unlocked => exec_unlockSwitch used frame (unlockSwitch_open unlocked),
      fun locked straight still => ?_, fun locked moving => ?_⟩
    · have answer := unlockSwitch_locked locked
      rw [if_pos ⟨straight, still⟩] at answer
      have served := exec_unlockSwitch used frame answer
      rw [changeState_eq, locked] at served
      exact served
    · have answer := unlockSwitch_locked locked
      rw [if_neg moving] at answer
      have served := exec_unlockSwitch used frame answer
      rw [changeState_eq, locked] at served
      exact served
  case clear =>
    refine ⟨fun sound => exec_clearSwitch used frame (clearSwitch_sound sound),
      fun fault node => exec_clearSwitch used frame ((clearSwitch_fault fault).trans (if_pos node)),
      fun fault node => ?_⟩
    have served := exec_clearSwitch used frame ((clearSwitch_fault fault).trans (if_neg node))
    rw [changeState_commandPosition, fault] at served
    exact served

end Sys2Proof.Machine
end

section
/-!
A detection record on its way (R82, R140 to R142): what CAR's taking leaves alone, and where each kind is handed on.
-/

namespace Sys2Proof.Machine

section HandedOn

variable {k : CarNo} {q : Sensor} {t : Time} {s : State}

/-! ### What CAR leaves alone -/

theorem takeDetection_race : (takeDetection k q t s).race = s.race := by rw [takeDetection_footprint]

theorem takeDetection_map : (takeDetection k q t s).map = s.map := by rw [takeDetection_footprint]

theorem takeDetection_intent : (takeDetection k q t s).cars[k].intent = s.cars[k].intent := by
  have changed (f : Car → Car) (keeps : (f s.cars[k]).intent = s.cars[k].intent) :
      (s.modifyCar k f).cars[k].intent = s.cars[k].intent :=
    (congrArg Car.intent (update_same s.cars k f)).trans keeps
  unfold takeDetection
  split <;> exact changed _ rfl

/-! ### By the kind (R142) -/

variable {j : SwitchNo}

theorem handOn_entry (node : q.node = switchNode j) (kind : q.kind = .entry) :
    handOn k q t s = if s.race = .run then entryDetection k j t s else s := by
  unfold handOn
  rw [node, kind, nodeSwitch_switchNode]

theorem handOn_exitStraight (node : q.node = switchNode j) (kind : q.kind = .exitStraight) :
    handOn k q t s = passage k j false s := by
  unfold handOn
  rw [node, kind, nodeSwitch_switchNode]

theorem handOn_exitThrown (node : q.node = switchNode j) (kind : q.kind = .exitThrown) :
    handOn k q t s = passage k j true s := by
  unfold handOn
  rw [node, kind, nodeSwitch_switchNode]

theorem handOn_gate {g : Fin 16} (node : q.node = gateNode g) (kind : q.kind = .gate) :
    handOn k q t s = if s.map.pairingGate = some g.val then pairingGateDetection k s else s := by
  unfold handOn
  rw [node, kind, nodeSwitch_gateNode, show (gateNode g).val - 24 = g.val from Nat.add_sub_cancel g.val 24]

/-- An ARMED intent is consumed and settled (R82). -/
theorem entryDetection_armed (armed : s.cars[k].intent ≠ none) :
    entryDetection k j t s = settle k j t (s.modifyCar k fun c => { c with intent := none }) := by
  unfold entryDetection
  split
  · rfl
  · next none => exact absurd none armed

theorem entryDetection_unarmed (unarmed : s.cars[k].intent = none) : entryDetection k j t s = s := by
  unfold entryDetection
  rw [unarmed]

/-! ### One record (R140, R141) -/

variable {a : NodeNo} {d : Detection}

theorem takeRecord_above (above : 12 ≤ d.carId) :
    takeRecord a s d = raise (.badCar a d.carId d.kind .invalidId (min d.age 1000)) s :=
  dif_neg (Nat.not_lt.mpr above)

theorem takeRecord_inTable (h : d.carId < 12) : takeRecord a s d =
    if s.cars[d.carId].profile.enabled then
      handOn ⟨d.carId, h⟩ { node := a, kind := d.kind } (s.clock - BitVec.ofNat 32 (min d.age 1000))
        (takeDetection ⟨d.carId, h⟩ { node := a, kind := d.kind } (s.clock - BitVec.ofNat 32 (min d.age 1000)) s)
    else raise (.badCar a d.carId d.kind .disabled (min d.age 1000)) s :=
  dif_pos h

end HandedOn

/-- Settles O52: a record by the car's number and its profile, and one that CAR has taken by its kind. -/
theorem detectionsHandedOn : Obligations.DetectionsHandedOn := by
  intro a d s
  refine ⟨takeRecord_above, fun inTable => ⟨fun disabled => ?_, fun enabled => ?_⟩⟩
  · exact (takeRecord_inTable inTable).trans (if_neg (by rw [disabled]; nofun))
  intro k t u
  have taken : takeRecord a s d = handOn k { node := a, kind := d.kind } t u :=
    (takeRecord_inTable inTable).trans (if_pos enabled)
  have race : u.race = s.race := takeDetection_race
  have map : u.map = s.map := takeDetection_map
  have intent : u.cars[k].intent = s.cars[k].intent := takeDetection_intent
  rw [taken]
  refine ⟨fun kind g node => ⟨fun paired => ?_, fun elsewhere => ?_⟩, fun j node =>
    ⟨fun kind running armed => ?_, fun kind off => ?_, fun kind => handOn_exitStraight node kind,
    fun kind => handOn_exitThrown node kind⟩⟩
  · exact (handOn_gate node kind).trans (if_pos (map ▸ paired))
  · exact (handOn_gate node kind).trans (if_neg (map ▸ elsewhere))
  · rw [handOn_entry node kind, if_pos (race.trans running), entryDetection_armed (intent ▸ armed)]
    rfl
  · rw [handOn_entry node kind]
    split
    · next running =>
      have unarmed := off.resolve_left (not_not_intro (race ▸ running))
      exact entryDetection_unarmed (intent.trans unarmed)
    · rfl

end Sys2Proof.Machine
end

section
/-!
What a settlement hands on (R83, R84, R98 to R100, R197): the record and its event, the saturation report, and on
GRANT the entry in its place with the throw request.
-/

namespace Sys2Proof.Machine

theorem SwitchFootprint.verdicts_eq {s t : State} (h : SwitchFootprint s t) : t.verdicts = s.verdicts := by rw [h]

theorem SwitchFootprint.limits_eq {s t : State} (h : SwitchFootprint s t) : t.limits = s.limits := by rw [h]

/-! ### The place of an entry (R100) -/

/-- An entry goes in before the first whose offset from the reference time is greater. -/
theorem insertEntry_place (tRef : Time) (n : Nat) (e : Reservation) (l : List Reservation) :
    ∃ before after : List Reservation, l = before ++ after ∧
      (∀ x ∈ before, (x.entryAt - tRef).toInt ≤ n) ∧
      (∀ x, after.head? = some x → (n : Int) < (x.entryAt - tRef).toInt) ∧
      insertEntry tRef n e l = before ++ e :: after := by
  induction l with
  | nil => exact ⟨[], [], rfl, nofun, nofun, rfl⟩
  | cons x xs ih =>
    by_cases first : (n : Int) < (x.entryAt - tRef).toInt
    · refine ⟨[], x :: xs, rfl, nofun, fun y head => ?_, if_pos first⟩
      obtain rfl : x = y := Option.some.inj head
      exact first
    · obtain ⟨before, after, split, low, high, placed⟩ := ih
      refine ⟨x :: before, after, congrArg (x :: ·) split, ?_, high,
        (if_neg first).trans (congrArg (x :: ·) placed)⟩
      exact List.forall_mem_cons.mpr ⟨Int.not_lt.mp first, low⟩

/-! ### The steps of R83 -/

section HandedOn

variable {v : VerdictRecord} {u : State}

/-- The record kept and VERDICT raised. -/
def verdictTold (v : VerdictRecord) (u : State) : State :=
  raise (.verdict v) { u with verdicts := u.verdicts.set v.switch (some v) }

theorem handOnVerdict_eq : handOnVerdict v u = carryOutGrant v (saturationReport v (verdictTold v u)) := rfl

/-- The record stands in the switch's place, whatever comes behind it. -/
theorem handOnVerdict_verdict : (handOnVerdict v u).verdicts[v.switch] = some v := by
  rw [handOnVerdict_eq, (carryOutGrant_switchFootprint v _).verdicts_eq, saturationReport_footprint]
  simp [verdictTold]

theorem handOnVerdict_denied (denied : v.verdict ≠ .grant) :
    handOnVerdict v u = saturationReport v (verdictTold v u) :=
  if_neg denied

theorem handOnVerdict_granted (granted : v.verdict = .grant) :
    handOnVerdict v u = throwRequest v.switch { saturationReport v (verdictTold v u) with
      lists := u.lists.set v.switch (insertEntry v.refTime v.entry (grantedEntry v) u.lists[v.switch]) } := by
  have lists : (saturationReport v (verdictTold v u)).lists = u.lists := by rw [saturationReport_footprint]; rfl
  rw [handOnVerdict_eq, carryOutGrant, if_pos granted, lists]
  unfold State.setList
  rw [lists, update_eq_set]

/-- The report of a window past the horizon, by the limits that stood before the settlement (R98, R197). -/
theorem saturationReport_verdictTold {s : State} (limits : u.limits = s.limits) :
    let told := verdictTold v u
    let flagged : State := { told with events := told.events.map fun q => { q with flags :=
      { q.flags with satSeen := true } } }
    saturationReport v told = if v.flagS then
      (if s.limits.satEvents then raise (.sat v.car v.switch v.verdict) flagged else flagged) else told := by
  rw [← limits]
  rfl

end HandedOn

/-- Settles O44: the record handed on by `handOnVerdict`, from what superseding leaves. -/
theorem settlementResults : Obligations.SettlementResults := by
  intro k j tRef s u
  have limits : u.limits = s.limits := (supersede_switchFootprint k s).limits_eq
  obtain ⟨v, settled, car, switch, time⟩ : ∃ v : VerdictRecord, settle k j tRef s = handOnVerdict v u ∧
      v.car = k ∧ v.switch = j ∧ v.refTime = tRef :=
    ⟨settlementRecord u s.switches[j].state j k tRef, rfl, rfl, rfl, rfl⟩
  clear_value u
  subst car switch time
  refine ⟨v, settled ▸ handOnVerdict_verdict, rfl, rfl, rfl, ?_⟩
  intro told flagged reported
  have report : saturationReport v told = reported := saturationReport_verdictTold limits
  refine ⟨fun denied => settled.trans ((handOnVerdict_denied denied).trans report), fun granted => ?_⟩
  obtain ⟨before, after, split, low, high, placed⟩ :=
    insertEntry_place v.refTime v.entry (grantedEntry v) u.lists[v.switch]
  refine ⟨before, after, split, low, high, settled.trans ((handOnVerdict_granted granted).trans ?_)⟩
  rw [placed, show saturationReport v (verdictTold v u) = reported from report]
  rfl

end Sys2Proof.Machine
end

section
/-!
The verdict record (R85, R86, R96, R97): the conflict set and the first conflicting car by induction over the
conflicting windows, and the verdict by the first of the five tests that fails.
-/

namespace Sys2Proof.Machine

/-! ### The conflict set and the first conflicting car (R96) -/

/-- One car's bit is set on top of the bits found so far. -/
theorem conflictSet_foldl (ws : List Window) (x : BitVec 12) (c : CarNo) :
    (ws.foldl (fun x w => x ||| BitVec.ofNat 12 (2 ^ w.car.val)) x).getLsbD c.val = true ↔
      x.getLsbD c.val = true ∨ ∃ w ∈ ws, w.car = c := by
  induction ws generalizing x with
  | nil => simp
  | cons w ws ih =>
    have bit : (BitVec.ofNat 12 (2 ^ w.car.val)).getLsbD c.val = true ↔ w.car = c := by
      rw [BitVec.getLsbD_ofNat, Nat.testBit_two_pow]
      simp [Fin.ext_iff]
    rw [List.foldl_cons, ih, BitVec.getLsbD_or, Bool.or_eq_true, bit, List.exists_mem_cons_iff, or_assoc]

theorem conflictSet_iff {ws : List Window} {c : CarNo} :
    (conflictSet ws).getLsbD c.val = true ↔ ∃ w ∈ ws, w.car = c :=
  (conflictSet_foldl ws 0 c).trans (by simp)

/-- R96's order of two windows: by the entry value, then by the car number. -/
def Window.NotAfter (w x : Window) : Prop :=
  narrow w.entry < narrow x.entry ∨ (narrow w.entry = narrow x.entry ∧ w.car ≤ x.car)

theorem Window.NotAfter.trans {w x y : Window} (h : w.NotAfter x) (k : x.NotAfter y) : w.NotAfter y := by
  unfold Window.NotAfter at *
  simp only [Fin.le_def] at *
  omega

theorem Window.notAfter_of_before {w x : Window} (h : w.before x = true) : w.NotAfter x := by
  unfold Window.before at h
  unfold Window.NotAfter
  simp only [Bool.or_eq_true, Bool.and_eq_true, decide_eq_true_eq, beq_iff_eq, Fin.lt_def] at h
  simp only [Fin.le_def]
  omega

theorem Window.notAfter_of_not_before {w x : Window} (h : ¬w.before x = true) : x.NotAfter w := by
  unfold Window.before at h
  unfold Window.NotAfter
  simp only [Bool.or_eq_true, Bool.and_eq_true, decide_eq_true_eq, beq_iff_eq, Fin.lt_def] at h
  simp only [Fin.le_def]
  omega

/-- The choice made along a list, from the window chosen so far. -/
def firstFrom (v : Window) (ws : List Window) : Window := ws.foldl (fun v w => if w.before v then w else v) v

/-- The choice is a window that none of the list comes before. -/
theorem firstFrom_first (ws : List Window) (v : Window) :
    firstFrom v ws ∈ v :: ws ∧ ∀ x ∈ v :: ws, (firstFrom v ws).NotAfter x := by
  induction ws generalizing v with
  | nil => simp [firstFrom, Window.NotAfter]
  | cons x xs ih =>
    have next : firstFrom v (x :: xs) = firstFrom (if x.before v then x else v) xs := rfl
    rw [next]
    obtain ⟨on, first⟩ := ih (if x.before v then x else v)
    obtain ⟨head, tail⟩ := List.forall_mem_cons.mp first
    by_cases before : x.before v = true
    · rw [if_pos before] at on head tail ⊢
      refine ⟨List.mem_cons_of_mem v on, List.forall_mem_cons.mpr ⟨?_, List.forall_mem_cons.mpr ⟨head, tail⟩⟩⟩
      exact head.trans (Window.notAfter_of_before before)
    · rw [if_neg before] at on head tail ⊢
      refine ⟨?_, List.forall_mem_cons.mpr ⟨head, List.forall_mem_cons.mpr ⟨?_, tail⟩⟩⟩
      · obtain chosen | later := List.mem_cons.mp on
        · exact List.mem_cons.mpr (.inl chosen)
        · exact List.mem_cons_of_mem v (List.mem_cons_of_mem x later)
      · exact head.trans (Window.notAfter_of_not_before before)

theorem firstWindow_none {ws : List Window} : firstWindow ws = none ↔ ws = [] := by
  cases ws <;> simp [firstWindow]

theorem firstWindow_some {ws : List Window} {w : Window} (h : firstWindow ws = some w) :
    w ∈ ws ∧ ∀ x ∈ ws, w.NotAfter x := by
  cases ws with
  | nil => cases h
  | cons v ws =>
    obtain rfl := Option.some.inj h
    exact firstFrom_first ws v

/-! ### The five tests (R85, R86) -/

theorem switchClosed_iff {sw : SwitchState} : switchClosed sw = true ↔ sw = .fault ∨ sw = .locked := by
  simp [switchClosed]

theorem overHorizon_iff {w : Window} : w.overHorizon = true ↔ 65535 < w.entry ∨ 65535 < w.exit := by
  simp [Window.overHorizon]

section Tests

variable {u : State} {sw : SwitchState} {j : SwitchNo} {k : CarNo} {tRef : Time} {a : Window} {x : Findings}

theorem arrivesLate_iff : arrivesLate u sw j a = true ↔
    sw ≠ .thrown ∧ narrow a.entry < (u.map.switch j).actuation := by
  simp [arrivesLate]

/-- What the tests have found, where the switch may have ended them before tests 3 and 4. -/
def settlementFindings (u : State) (sw : SwitchState) (j : SwitchNo) (k : CarNo) (tRef : Time) : Findings :=
  if switchClosed sw || arrivesLate u sw j (requesterWindow u j k) then Findings.untested
  else runTests u j k tRef (requesterWindow u j k)

theorem settlementFindings_untested (h : switchClosed sw = true ∨ arrivesLate u sw j (requesterWindow u j k) = true) :
    settlementFindings u sw j k tRef = Findings.untested :=
  if_pos (Bool.or_eq_true_iff.mpr h)

theorem settlementFindings_tested (opened : ¬switchClosed sw = true)
    (early : ¬arrivesLate u sw j (requesterWindow u j k) = true) :
    settlementFindings u sw j k tRef = runTests u j k tRef (requesterWindow u j k) :=
  if_neg fun h => (Bool.or_eq_true_iff.mp h).elim opened early

theorem settlementRecord_eq : settlementRecord u sw j k tRef =
    let a := requesterWindow u j k
    let x := settlementFindings u sw j k tRef
    let v := decideVerdict u sw j a x
    { car := k, switch := j, refTime := tRef, verdict := v
      flagG := v == .grant, flagC := !(x.reserved ++ x.traffic).isEmpty, flagL := v == .denyLate
      flagS := a.overHorizon || x.windows.any Window.overHorizon, flagU := x.stalePlaced
      conflicts := conflictSet (x.reserved ++ x.traffic)
      firstConflict := (firstWindow (x.reserved ++ x.traffic)).map Window.car
      entry := narrow a.entry, exit := narrow a.exit } := rfl

theorem decideVerdict_closed (closed : switchClosed sw = true) : decideVerdict u sw j a x = .denySwitch :=
  if_pos closed

theorem decideVerdict_late (opened : ¬switchClosed sw = true) (late : arrivesLate u sw j a = true) :
    decideVerdict u sw j a x = .denyLate :=
  (if_neg opened).trans (if_pos late)

section Reached

variable (opened : ¬switchClosed sw = true) (early : ¬arrivesLate u sw j a = true)

include opened early

/-- With the switch's tests passed the conflicts decide, and then the room in the list. -/
theorem decideVerdict_reached : decideVerdict u sw j a x =
    if x.reserved ≠ [] then .denyReserved
    else if x.traffic ≠ [] then .denyTraffic
    else if 4 ≤ u.lists[j].length then .denyFull
    else .grant := by
  unfold decideVerdict
  rw [if_neg opened, if_neg early]
  simp

/-- A conflict is found exactly where test 3 or test 4 decides. -/
theorem decideVerdict_conflict : x.reserved ++ x.traffic ≠ [] ↔
    decideVerdict u sw j a x = .denyReserved ∨ decideVerdict u sw j a x = .denyTraffic := by
  rw [decideVerdict_reached opened early]
  by_cases reserved : x.reserved = []
  · by_cases traffic : x.traffic = []
    · by_cases full : 4 ≤ u.lists[j].length <;> simp [reserved, traffic, full, -Fin.getElem_fin]
    · simp [reserved, traffic]
  · simp [reserved]

end Reached

/-! ### The findings of tests 3 and 4 -/

theorem filter_ne_nil {α : Type} {p : α → Bool} {l : List α} : l.filter p ≠ [] ↔ ∃ w ∈ l, p w = true := by
  simp [List.filter_eq_nil_iff]

/-- The conflicting windows of both tests are those of all the windows computed. -/
theorem runTests_found : (runTests u j k tRef a).reserved ++ (runTests u j k tRef a).traffic =
    (reservationWindows u j tRef ++ trafficWindows u j k tRef).filter (conflicts u.limits.guardTime a) :=
  (List.filter_append _ _).symm

theorem runTests_stalePlaced : (runTests u j k tRef a).stalePlaced = true ↔
    ∃ m : CarNo, isConsidered u j k m = true ∧ u.cars[m].fixStale u.clock = true := by
  simp [runTests, consideredCars, -Fin.getElem_fin]

end Tests

theorem handOnVerdict_verdict_at {v : VerdictRecord} {u : State} {j : SwitchNo} (switch : v.switch = j) :
    (handOnVerdict v u).verdicts[j] = some v := by
  subst switch
  exact handOnVerdict_verdict

theorem settle_verdict (k : CarNo) (j : SwitchNo) (tRef : Time) (s : State) :
    (settle k j tRef s).verdicts[j] = some (settlementRecord (supersede k s) s.switches[j].state j k tRef) :=
  handOnVerdict_verdict_at rfl

/-! ### The record's parts -/

section Parts

variable {u : State} {sw : SwitchState} {j : SwitchNo} {k : CarNo} {tRef : Time} {g : Nat} {a : Window}
  {ws : List Window}

/-- The first conflicting car is the car of a conflicting window that no other comes before (R96). -/
theorem firstConflict_some {c : CarNo} (h : (firstWindow (ws.filter (conflicts g a))).map Window.car = some c) :
    ∃ w ∈ ws, conflicts g a w = true ∧ w.car = c ∧ ∀ x ∈ ws, conflicts g a x = true →
      narrow w.entry < narrow x.entry ∨ (narrow w.entry = narrow x.entry ∧ c ≤ x.car) := by
  obtain ⟨w, chosen, rfl⟩ := Option.map_eq_some_iff.mp h
  obtain ⟨on, first⟩ := firstWindow_some chosen
  obtain ⟨listed, meets⟩ := List.mem_filter.mp on
  exact ⟨w, listed, meets, rfl, fun x listed meets => first x (List.mem_filter.mpr ⟨listed, meets⟩)⟩

theorem firstConflict_none : (firstWindow (ws.filter (conflicts g a))).map Window.car = none ↔
    ∀ w ∈ ws, ¬conflicts g a w = true := by
  rw [Option.map_eq_none_iff, firstWindow_none, List.filter_eq_nil_iff]

theorem conflicts_iff {c : CarNo} : (conflictSet (ws.filter (conflicts g a))).getLsbD c.val = true ↔
    ∃ w ∈ ws, conflicts g a w = true ∧ w.car = c := by
  simp only [conflictSet_iff, List.mem_filter, and_assoc]

/-- S is set by any window computed (R97). -/
theorem flagS_iff : (a.overHorizon || ws.any Window.overHorizon) = true ↔
    ∃ w ∈ a :: ws, 65535 < w.entry ∨ 65535 < w.exit := by
  simp only [Bool.or_eq_true, List.any_eq_true, overHorizon_iff, List.exists_mem_cons_iff]

/-- C is set exactly where test 3 or test 4 decides (R97). -/
theorem flagC_iff :
    let x := settlementFindings u sw j k tRef
    let v := decideVerdict u sw j (requesterWindow u j k) x
    (!(x.reserved ++ x.traffic).isEmpty) = true ↔ v = .denyReserved ∨ v = .denyTraffic := by
  dsimp only
  by_cases closed : switchClosed sw = true
  · rw [settlementFindings_untested (.inl closed), decideVerdict_closed closed]
    simp [Findings.untested]
  by_cases late : arrivesLate u sw j (requesterWindow u j k) = true
  · rw [settlementFindings_untested (.inr late), decideVerdict_late closed late]
    simp [Findings.untested]
  rw [← decideVerdict_conflict closed late, Bool.not_eq_true', ← Bool.not_eq_true, List.isEmpty_iff]

end Parts

/-- Settles O43: the record of `settlementRecord`, by whether the switch's own tests end the settlement. -/
theorem verdictByTestsInOrder : Obligations.VerdictByTestsInOrder := by
  intro k j tRef s u a closed late reserved traffic meets
  let sw := s.switches[j].state
  have closed_iff : switchClosed sw = true ↔ closed := switchClosed_iff
  have late_iff : arrivesLate u sw j a = true ↔ late := arrivesLate_iff
  refine ⟨_, settle_verdict k j tRef s, ?_⟩
  rw [settlementRecord_eq]
  refine ⟨rfl, rfl, rfl, by dsimp only [a], by dsimp only [a], fun h => decideVerdict_closed (closed_iff.mpr h),
    fun h l => decideVerdict_late (mt closed_iff.mp h) (late_iff.mpr l), fun h l => ?verdict, fun h => ?untested,
    fun h l => ?tested, ?_, ?_, flagC_iff⟩
  case verdict =>
    have opened := mt closed_iff.mp h
    have early := mt late_iff.mp l
    have decided := decideVerdict_reached (x := runTests u j k tRef a) opened early
    show (_ → decideVerdict u sw j a (settlementFindings u sw j k tRef) = _) ∧ _
    rw [settlementFindings_tested opened early]
    refine ⟨fun reserved => decided.trans (if_pos (filter_ne_nil.mpr reserved)), fun free => ?_⟩
    have decided := decided.trans (if_neg (not_not_intro (List.filter_eq_nil_iff.mpr free)))
    refine ⟨fun traffic => decided.trans (if_pos (filter_ne_nil.mpr traffic)), fun clear => ?_⟩
    have decided := decided.trans (if_neg (not_not_intro (List.filter_eq_nil_iff.mpr clear)))
    exact ⟨fun full => decided.trans (if_pos full), fun room => decided.trans (if_neg (Nat.not_le.mpr room))⟩
  case untested =>
    have none : settlementFindings u sw j k tRef = Findings.untested :=
      settlementFindings_untested (h.imp closed_iff.mpr late_iff.mpr)
    dsimp only
    rw [none]
    refine ⟨rfl, rfl, rfl, ?_⟩
    rw [show Findings.untested.windows.any Window.overHorizon = false from rfl, Bool.or_false]
    exact overHorizon_iff
  case tested =>
    have tested : settlementFindings u sw j k tRef = runTests u j k tRef a :=
      settlementFindings_tested (mt closed_iff.mp h) (mt late_iff.mp l)
    dsimp only
    rw [tested, runTests_found]
    exact ⟨fun c => conflicts_iff, firstConflict_none, fun c => firstConflict_some, flagS_iff, runTests_stalePlaced⟩
  · dsimp only
    rw [beq_iff_eq]
  · dsimp only
    rw [beq_iff_eq]

end Sys2Proof.Machine
end

section
/-!
The windows of a settlement (R88 to R95): rounding and narrowing, whose windows are computed, and a traffic car's
placement.
-/

namespace Sys2Proof.Machine

/-! ### Narrowing (R88) -/

theorem narrow_below {x : Int} (h : x < 0) : narrow x = 0 := by
  unfold narrow
  split <;> omega

theorem narrow_inside {x : Int} (low : 0 ≤ x) (high : x ≤ 65535) : (narrow x : Int) = x := by
  unfold narrow
  split <;> omega

theorem narrow_above {x : Int} (h : 65535 < x) : narrow x = 65535 := if_pos h

theorem narrow_le (x : Int) : narrow x ≤ 65535 := by
  unfold narrow
  split <;> omega

theorem narrow_mono {x y : Int} (h : x ≤ y) : narrow x ≤ narrow y := by
  unfold narrow
  split <;> split <;> omega

/-! ### Rounding (R89, R92) -/

section Rounding

variable {v : Nat} (moving : 0 < v)

include moving

/-- The entry time is rounded down. -/
theorem entryTime_bounds (mm : Int) :
    entryTime mm v * v ≤ mm * 10000 ∧ mm * 10000 < (entryTime mm v + 1) * v :=
  ⟨Int.ediv_mul_le _ (by omega), Int.lt_ediv_add_one_mul_self _ (by omega)⟩

/-- The exit time is rounded up. -/
theorem exitTime_bounds (mm : Int) :
    (exitTime mm v - 1) * v < mm * 10000 ∧ mm * 10000 ≤ exitTime mm v * v := by
  have low : -(mm * 10000) / v * v ≤ -(mm * 10000) := Int.ediv_mul_le _ (by omega)
  have high : -(mm * 10000) < (-(mm * 10000) / v + 1) * v := Int.lt_ediv_add_one_mul_self _ (by omega)
  unfold exitTime ceilingDiv
  constructor
  · calc (-(-(mm * 10000) / v) - 1) * v = -((-(mm * 10000) / v + 1) * v) := by ring
      _ < mm * 10000 := by omega
  · calc mm * 10000 ≤ -(-(mm * 10000) / v * v) := by omega
      _ = -(-(mm * 10000) / v) * v := by ring

/-- A front that enters no later than a tail leaves has the smaller time. -/
theorem entryTime_le_exitTime {front tail : Int} (h : front ≤ tail) : entryTime front v ≤ exitTime tail v := by
  have speed : (0 : Int) < v := by omega
  refine Int.le_of_mul_le_mul_right ?_ speed
  calc entryTime front v * v ≤ front * 10000 := (entryTime_bounds moving front).1
    _ ≤ tail * 10000 := by omega
    _ ≤ exitTime tail v * v := (exitTime_bounds moving tail).2

end Rounding

/-! ### Reservations and traffic candidates (R90, R94) -/

section Candidates

variable {s : State} {j : SwitchNo} {k m : CarNo} {tRef : Time} {w : Window}

theorem mem_group {i : SwitchNo} : i ∈ s.map.group j ↔
    i = j ∨ ((s.map.switch j).group ≠ none ∧ (s.map.switch i).used = true ∧
      (s.map.switch i).group = (s.map.switch j).group) := by
  simp [TrackMap.group, Option.isSome_iff_ne_none, and_assoc]

theorem mem_reservationWindows : w ∈ reservationWindows s j tRef ↔
    ∃ (i : SwitchNo) (e : Reservation), e ∈ s.lists[i] ∧ i ∈ s.map.group j ∧
      w = { car := e.car, entry := (e.entryAt - tRef).toInt, exit := (e.exitAt - tRef).toInt } := by
  unfold reservationWindows testedEntries
  simp only [List.mem_map, List.mem_flatMap]
  constructor
  · rintro ⟨e, ⟨i, grouped, on⟩, rfl⟩
    exact ⟨i, e, on, grouped, rfl⟩
  · rintro ⟨i, e, on, grouped, rfl⟩
    exact ⟨e, ⟨i, grouped, on⟩, rfl⟩

theorem isConsidered_iff : isConsidered s j k m = true ↔
    m ≠ k ∧ s.cars[m].profile.enabled = true ∧ s.cars[m].fix ≠ none ∧ ∀ e ∈ testedEntries s j, e.car ≠ m := by
  unfold isConsidered holdsEntry
  simp [Option.isSome_iff_ne_none, and_assoc, -Fin.getElem_fin]

theorem mem_trafficWindows : w ∈ trafficWindows s j k tRef ↔
    ∃ m : CarNo, isConsidered s j k m = true ∧ trafficWindow s j tRef m = some w := by
  simp [trafficWindows, consideredCars]

end Candidates

/-! ### A traffic car's placement (R91 to R93) -/

section Traffic

variable {s : State} {j : SwitchNo} {m : CarNo} {tRef : Time} {f : Fix} (fixed : s.cars[m].fix = some f)

include fixed

theorem isMoving_iff : isMoving s m = true ↔
    (s.cars[m].stale = false ∧ (s.clock - f.time).toNat ≤ 50000) ∧ 50 ≤ s.cars[m].speed := by
  have stale := fixStale_iff fixed s.clock
  unfold isMoving
  rw [Bool.and_eq_true, Bool.not_eq_true', ← Bool.not_eq_true, stale, decide_eq_true_iff]
  simp [-Fin.getElem_fin]

theorem trafficWindow_unreachable (unreachable : s.map.walkFrom f.sensor (s.map.switch j).thrown = none) :
    trafficWindow s j tRef m = none := by
  simp only [trafficWindow, remaining, fixed, unreachable, Option.map_none]

variable {d : Int} (walked : s.map.walkFrom f.sensor (s.map.switch j).thrown = some d)

include walked

/-- A moving car's window runs from its projected front (R91, R92). -/
theorem trafficWindow_moving (moving : isMoving s m = true) : trafficWindow s j tRef m =
    let rem : Int := d - (fixElapsed tRef f.time * s.cars[m].speed / 10000 : Nat)
    let clear := rem + ((s.map.switch j).zoneLength + s.cars[m].profile.length)
    if clear ≤ 0 then none
    else some { car := m, entry := entryTime (max rem 0) s.cars[m].speed, exit := exitTime clear s.cars[m].speed } := by
  simp only [trafficWindow, remaining, fixed, walked, moving, Option.map_some, if_true, Int.add_assoc]

/-- A STILL car stands in the zone or is no candidate (R93). -/
theorem trafficWindow_still (still : ¬isMoving s m = true) : trafficWindow s j tRef m =
    if d ≤ 0 ∧ 0 < d + ((s.map.switch j).zoneLength + s.cars[m].profile.length) then
      some { car := m, entry := 0, exit := 65535 }
    else none := by
  simp only [trafficWindow, remaining, fixed, walked, still, Option.map_some, Bool.false_eq_true, if_false,
    Int.sub_zero, Int.add_assoc]

end Traffic

/-! ### Conflicts (R95) -/

theorem conflicts_false {g : Nat} {a b : Window} : conflicts g a b = false ↔
    narrow b.exit + g ≤ narrow a.entry ∨ narrow a.exit + g ≤ narrow b.entry := by
  rw [← Bool.not_eq_true]
  unfold conflicts
  rw [Bool.and_eq_true, decide_eq_true_iff, decide_eq_true_iff]
  omega

/-- Settles O42: each window from its rounding, its membership and its placement. -/
theorem windowsComputed : Obligations.WindowsComputed := by
  refine ⟨fun x => ⟨narrow_below, narrow_inside, narrow_above⟩, fun k j s => ?requester, fun j tRef s w => ?_,
    fun j k tRef s w => ?_, fun j m tRef s f fixed => ?traffic, fun g a b => conflicts_false⟩
  case requester =>
    intro v d w out
    have moving : 0 < v := by omega
    have entry := entryTime_bounds moving d
    have exit := exitTime_bounds moving (d + (s.map.switch j).zoneLength + s.cars[k].profile.length)
    refine ⟨rfl, entry.1, entry.2, exit.1, exit.2, narrow_mono (entryTime_le_exitTime moving ?_), narrow_le _⟩
    show d ≤ d + _ + _
    omega
  · simp only [mem_reservationWindows, mem_group]
  · simp only [mem_trafficWindows, isConsidered_iff, and_assoc]
  case traffic =>
    intro v zone since fresh
    have moving_iff : isMoving s m = true ↔ fresh ∧ 50 ≤ v := isMoving_iff fixed
    refine ⟨trafficWindow_unreachable fixed, fun d walked => ⟨fun isFresh fast => ?_, fun still => ?_⟩⟩
    · intro rem
      have window := trafficWindow_moving (tRef := tRef) fixed walked (moving_iff.mpr ⟨isFresh, fast⟩)
      refine ⟨fun passed => window.trans (if_pos passed), fun ahead => ?_⟩
      have moving : 0 < v := by omega
      have entry := entryTime_bounds moving (max rem 0)
      have exit := exitTime_bounds moving (rem + zone)
      refine ⟨_, window.trans (if_neg (Int.not_le.mpr ahead)), rfl, entry.1, entry.2, exit.1, exit.2,
        narrow_mono (entryTime_le_exitTime moving ?_), narrow_le _⟩
      show max rem 0 ≤ rem + zone
      omega
    · have slow : ¬isMoving s m = true := fun moving =>
        let ⟨isFresh, fast⟩ := moving_iff.mp moving
        still.elim (· isFresh) fun slow => by omega
      have window := trafficWindow_still (tRef := tRef) fixed walked slow
      exact ⟨fun inside within => window.trans (if_pos ⟨inside, within⟩),
        fun outside => window.trans (if_neg (by omega))⟩

end Sys2Proof.Machine
end

section
/-!
SWC's answers to requests and position reports (R112 to R116): the record, the command and the event of each, by the
switch's state.
-/

namespace Sys2Proof.Machine

/-! ### A record put in a switch's place -/

section Recorded

variable (j : SwitchNo) (r : SwitchRun) (s : State)

/-- The state with switch `j`'s record replaced. -/
def recorded : State := { s with switches := s.switches.set j r }

@[simp] theorem recorded_switch : (recorded j r s).switches[j] = r := by simp [recorded]

/-- The switch placed on the urgent list, or in its place there (R112, R144). -/
def urged : State :=
  { s with loop := { s.loop with urgent := if j ∈ s.loop.urgent then s.loop.urgent else s.loop.urgent ++ [j] } }

/-- A record once its switch is commanded to a position (R112). -/
def commandedTo (x : Position) : SwitchRun :=
  { r with commanded := x, deadline := some (later s.clock ((s.map.switch j).actuation + 200)) }

/-- A record once its switch's state has changed (R110). -/
def movedTo (x : SwitchState) : SwitchRun :=
  { r with
    state := x
    throwCount := if x = .throwing then bump 65535 r.throwCount else r.throwCount
    faultCount := if x = .fault then bump 255 r.faultCount else r.faultCount }

theorem commandPosition_recorded (x : Position) :
    commandPosition j x (recorded j r s) = urged j (recorded j (commandedTo j r s x) s) := by
  rw [commandPosition_eq, recorded_switch]
  simp only [recorded, Vector.set_set]
  rfl

theorem changeState_recorded (x : SwitchState) (cause : SwitchCause) : changeState j x cause (recorded j r s) =
    raise (.switchState j r.state x cause r.confirmed) (recorded j (movedTo r x) s) := by
  rw [changeState_eq]
  simp [recorded, movedTo]

theorem cancelDeadline_recorded :
    cancelDeadline j (recorded j r s) = recorded j { r with deadline := none } s := by
  simp [cancelDeadline, State.modifySwitch, recorded, update]

/-- A command with a change of state, as a slip takes it: one record and one event. -/
theorem changeState_commandPosition_recorded (x : Position) (y : SwitchState) (cause : SwitchCause) :
    changeState j y cause (commandPosition j x (recorded j r s)) =
      raise (.switchState j r.state y cause r.confirmed)
        (urged j (recorded j (movedTo (commandedTo j r s x) y) s)) := by
  rw [commandPosition_recorded]
  exact changeState_recorded j (commandedTo j r s x) (urged j s) y cause

end Recorded

/-! ### Throw requests (R113) -/

section Throws

variable {j : SwitchNo} {s : State}

theorem throwRequest_taken (home : s.switches[j].state = .straight ∨ s.switches[j].state = .returning) :
    throwRequest j s = changeState j .throwing .throwOrder (commandPosition j .thrown s) := by
  unfold throwRequest
  obtain straight | returning := home
  · rw [straight]
  · rw [returning]

theorem throwRequest_ignored (notStraight : s.switches[j].state ≠ .straight)
    (notReturning : s.switches[j].state ≠ .returning) : throwRequest j s = s := by
  unfold throwRequest
  split
  · next straight => exact absurd straight notStraight
  · next returning => exact absurd returning notReturning
  all_goals rfl

end Throws

/-- Settles O47: each request by whether the switch's state takes it. -/
theorem throwAndReturnRequests : Obligations.ThrowAndReturnRequests := by
  intro j s r deadline loop
  refine ⟨fun home => ?_, throwRequest_ignored, fun away => ?_, fun notThrown notThrowing => ?_⟩
  · rw [throwRequest_taken home, changeState_commandPosition]
    rfl
  · exact returnRequest_taken (returns_iff.mpr away)
  · have stands : ¬returns j s = true := fun acts => (returns_iff.mp acts).elim notThrown notThrowing
    exact returnRequest_ignored (Bool.eq_false_iff.mpr stands)

/-! ### Position reports by the switch's state (R115, R116) -/

section Reports

variable {j : SwitchNo} {x : ReportedPosition} {s : State}

/-- A record with the confirmed position that a report sets (R115). -/
def seenAt (r : SwitchRun) (x : ReportedPosition) : SwitchRun := { r with confirmed := confirmedBy x }

/-- The state in which the report's position is confirmed and not yet acted on. -/
def seen (j : SwitchNo) (x : ReportedPosition) (s : State) : State := recorded j (seenAt s.switches[j] x) s

theorem seen_switch : (seen j x s).switches[j] = seenAt s.switches[j] x := recorded_switch ..

theorem modifySwitch_seen : s.modifySwitch j (fun r => { r with confirmed := confirmedBy x }) = seen j x s := rfl

theorem positionReport_straight (state : s.switches[j].state = .straight) : positionReport j x s =
    if x = .straight then seen j x s
    else changeState j .returning .slip (commandPosition j .straight (seen j x s)) := by
  simp only [positionReport, modifySwitch_seen, seen_switch, seenAt, state]

theorem positionReport_throwing (state : s.switches[j].state = .throwing) : positionReport j x s =
    if x = .thrown then changeState j .thrown .confirm (cancelDeadline j (seen j x s)) else seen j x s := by
  simp only [positionReport, modifySwitch_seen, seen_switch, seenAt, state]

theorem positionReport_thrown (state : s.switches[j].state = .thrown) : positionReport j x s =
    if x = .thrown then seen j x s
    else changeState j .throwing .slip (commandPosition j .thrown (seen j x s)) := by
  simp only [positionReport, modifySwitch_seen, seen_switch, seenAt, state]

theorem positionReport_returning (state : s.switches[j].state = .returning) : positionReport j x s =
    if x = .straight then changeState j .straight .confirm (cancelDeadline j (seen j x s)) else seen j x s := by
  simp only [positionReport, modifySwitch_seen, seen_switch, seenAt, state]

theorem positionReport_locked (state : s.switches[j].state = .locked) : positionReport j x s =
    if x = .straight then cancelDeadline j (seen j x s)
    else if s.switches[j].deadline = none then commandPosition j .straight (seen j x s) else seen j x s := by
  simp only [positionReport, modifySwitch_seen, seen_switch, seenAt, state]

theorem positionReport_fault (state : s.switches[j].state = .fault) : positionReport j x s = seen j x s := by
  simp only [positionReport, modifySwitch_seen, seen_switch, seenAt, state]

/-- A slip: the switch is commanded to a position, with SW_STATE for the record as seen (R112, R116). -/
theorem slip_seen {w : SwitchState} (state : s.switches[j].state = w) (y : Position) (z : SwitchState) :
    changeState j z .slip (commandPosition j y (seen j x s)) =
      raise (.switchState j w z .slip (confirmedBy x))
        (urged j (recorded j (movedTo (commandedTo j (seenAt s.switches[j] x) s y) z) s)) := by
  subst state
  exact changeState_commandPosition_recorded ..

/-- A confirmation: the deadline is cancelled, with SW_STATE for the record as seen (R116). -/
theorem confirm_seen {w : SwitchState} (state : s.switches[j].state = w) (z : SwitchState) :
    changeState j z .confirm (cancelDeadline j (seen j x s)) =
      raise (.switchState j w z .confirm (confirmedBy x))
        (recorded j (movedTo { seenAt s.switches[j] x with deadline := none } z) s) := by
  subst state
  rw [seen, cancelDeadline_recorded]
  exact changeState_recorded ..

end Reports

/-- Settles O48: R116's rows by the switch's state, and in each state by the reported position. -/
theorem positionReports : Obligations.PositionReports := by
  intro j x s _ r confirmed seen only commanded deadline done
  refine ⟨fun straight same => ?_, fun straight slipped => ?_, fun throwing same => ?_, fun throwing other => ?_,
    fun thrown same => ?_, fun thrown slipped => ?_, fun returning same => ?_, fun returning other => ?_,
    fun locked same => ?_, fun locked other idle => ?_, fun locked other pending => ?_, positionReport_fault⟩
  · exact (positionReport_straight straight).trans (if_pos same)
  · exact (positionReport_straight straight).trans ((if_neg slipped).trans (slip_seen straight ..))
  · exact (positionReport_throwing throwing).trans ((if_pos same).trans (confirm_seen throwing _))
  · exact (positionReport_throwing throwing).trans (if_neg other)
  · exact (positionReport_thrown thrown).trans (if_pos same)
  · exact (positionReport_thrown thrown).trans ((if_neg slipped).trans (slip_seen thrown ..))
  · exact (positionReport_returning returning).trans ((if_pos same).trans (confirm_seen returning _))
  · exact (positionReport_returning returning).trans (if_neg other)
  · exact (positionReport_locked locked).trans ((if_pos same).trans (cancelDeadline_recorded ..))
  · exact (positionReport_locked locked).trans
      ((if_neg other).trans ((if_pos idle).trans (commandPosition_recorded ..)))
  · exact (positionReport_locked locked).trans ((if_neg other).trans (if_neg pending))

end Sys2Proof.Machine
end

section
/-!
A node's record at the end of each exchange (R137), and what its news comes to (R119, R138).
-/

namespace Sys2Proof.Machine

/-! ### The record (R137) -/

section Records

variable (r : NodeRecord) (now : Time)

/-- What every answered exchange does to a polled node's record. -/
def NodeRecord.heard : NodeRecord :=
  { r with exchanges := bump 65535 r.exchanges, lastAnswer := some now, missCount := 0 }

/-- What every missed exchange does to a polled node's record. -/
def NodeRecord.unheard : NodeRecord :=
  { r with
    exchanges := bump 65535 r.exchanges, misses := bump 65535 r.misses, lastMiss := some now, goodCount := 0 }

variable {r now}

theorem NodeRecord.answered_ok (state : r.state = .ok) :
    r.answered now = ({ r.heard now with goodCount := bump 255 r.goodCount }, .none) := by
  simp only [answered, heard, state]

theorem NodeRecord.answered_missing (state : r.state = .missing) :
    r.answered now = ({ r.heard now with goodCount := 1, state := .ok }, .none) := by
  simp only [answered, heard, state]

theorem NodeRecord.answered_fault (state : r.state = .fault) : r.answered now =
    if bump 255 r.goodCount < 4 then ({ r.heard now with goodCount := bump 255 r.goodCount }, .none)
    else ({ r.heard now with goodCount := 4, state := .ok }, .recovered) := by
  simp only [answered, heard, state]

theorem NodeRecord.missed_ok (state : r.state = .ok) :
    r.missed now = ({ r.unheard now with missCount := 1, state := .missing }, .none) := by
  simp only [missed, unheard, state]

theorem NodeRecord.missed_missing (state : r.state = .missing) : r.missed now =
    if bump 255 r.missCount < 3 then ({ r.unheard now with missCount := bump 255 r.missCount }, .none)
    else ({ r.unheard now with missCount := 3, state := .fault }, .fault) := by
  simp only [missed, unheard, state]

theorem NodeRecord.missed_fault (state : r.state = .fault) :
    r.missed now = ({ r.unheard now with missCount := bump 255 r.missCount }, .none) := by
  simp only [missed, unheard, state]

/-- A count of one byte comes within reach of a limit one step below it. -/
theorem bump_lt_succ_iff {n limit : Nat} (small : limit < 255) : bump 255 n < limit + 1 ↔ n < limit := by
  unfold bump
  split <;> omega

theorem bump_of_lt {cap n : Nat} (below : n < cap) : bump cap n = n + 1 := if_pos below

end Records

/-! ### The news (R119, R138) -/

section News

variable {a : NodeNo} {s : State} {x : NodeRecord} {n : NodeNews}

theorem takeAnswer_of (outcome : s.loop.nodes[a].answered s.clock = (x, n)) :
    takeAnswer a s = tellNews a n (s.modifyNode a fun _ => x) := by
  unfold takeAnswer
  rw [outcome]

theorem takeMiss_of (outcome : s.loop.nodes[a].missed s.clock = (x, n)) :
    takeMiss a s = tellNews a n (s.modifyNode a fun _ => x) := by
  unfold takeMiss
  rw [outcome]

theorem modifyNode_node (a : NodeNo) (x : NodeRecord) (s : State) :
    (s.modifyNode a fun _ => x).loop.nodes[a] = x := update_same ..

theorem tellNews_recovered (a : NodeNo) (x : NodeRecord) (s : State) :
    tellNews a .recovered (s.modifyNode a fun _ => x) =
      raise (.nodeOk a (x.lastMiss.getD 0)) (s.modifyNode a fun _ => x) := by
  unfold tellNews
  dsimp only
  rw [modifyNode_node]

theorem tellNews_fault_gate (gate : nodeSwitch a = none) : tellNews a .fault (s.modifyNode a fun _ => x) =
    raise (.nodeFault a x.exchanges x.misses) (s.modifyNode a fun _ => x) := by
  unfold tellNews nodeFaults
  dsimp only
  rw [gate, modifyNode_node]

theorem tellNews_fault_switch {j : SwitchNo} (switch : nodeSwitch a = some j) :
    tellNews a .fault (s.modifyNode a fun _ => x) =
      enterFault j .nodeFault (raise (.nodeFault a x.exchanges x.misses) (s.modifyNode a fun _ => x)) := by
  unfold tellNews nodeFaults
  dsimp only
  rw [switch, modifyNode_node]

end News

/-- Settles O50: the record by the node's state and counts, and the news of the two rows that have some. -/
theorem nodeStanding : Obligations.NodeStanding := by
  intro a s r more next record answered missed
  refine ⟨fun ok => ?_, fun ok => ?_, fun missing => ?_, fun missing few => ?_, fun missing third => ?_,
    fun fault few => ?_, fun fault fourth => ?_, fun fault => ?_⟩
  · exact takeAnswer_of (NodeRecord.answered_ok ok)
  · exact takeMiss_of (NodeRecord.missed_ok ok)
  · exact takeAnswer_of (NodeRecord.answered_missing missing)
  · have outcome := NodeRecord.missed_missing (now := s.clock) missing
    rw [if_pos ((bump_lt_succ_iff (by decide)).mpr few), bump_of_lt (by omega)] at outcome
    exact takeMiss_of outcome
  · have outcome := NodeRecord.missed_missing (now := s.clock) missing
    rw [if_neg (mt (bump_lt_succ_iff (by decide)).mp (Nat.not_lt.mpr third))] at outcome
    refine ⟨fun gate => (takeMiss_of outcome).trans (tellNews_fault_gate gate), fun j node => ?_⟩
    exact (takeMiss_of outcome).trans (tellNews_fault_switch (node ▸ nodeSwitch_switchNode j))
  · have outcome := NodeRecord.answered_fault (now := s.clock) fault
    rw [if_pos ((bump_lt_succ_iff (by decide)).mpr few), bump_of_lt (by omega)] at outcome
    exact takeAnswer_of outcome
  · have outcome := NodeRecord.answered_fault (now := s.clock) fault
    rw [if_neg (mt (bump_lt_succ_iff (by decide)).mp (Nat.not_lt.mpr fourth))] at outcome
    exact (takeAnswer_of outcome).trans (tellNews_recovered ..)
  · exact takeMiss_of (NodeRecord.missed_fault fault)

end Sys2Proof.Machine
end

section
/-!
The poll arbiter's choice, and the command that each poll carries (R134, R145, R146).
-/

namespace Sys2Proof.Machine

section Arbiter

variable {a : NodeNo} {s : State}

/-! ### The command of a poll (R134) -/

theorem setCommand_eq (x : Position) : setCommand x = if x = .thrown then .setThrown else .setStraight := by
  cases x <;> rfl

theorem pollCommand_switchNode (j : SwitchNo) (s : State) : pollCommand (switchNode j) s =
    if j ∈ s.loop.urgent then setCommand s.switches[j].commanded else .none := by
  unfold pollCommand
  rw [nodeSwitch_switchNode]

theorem pollCommand_urgent {j : SwitchNo} (on : j ∈ s.loop.urgent) : pollCommand (switchNode j) s =
    if s.switches[j].commanded = .thrown then .setThrown else .setStraight := by
  rw [pollCommand_switchNode, if_pos on, setCommand_eq]

theorem nodeSwitch_of_high (high : 24 ≤ a.val) : nodeSwitch a = none := dif_neg (Nat.not_lt.mpr high)

theorem pollCommand_gate (gate : nodeSwitch a = none) : pollCommand a s = .none := by
  unfold pollCommand
  rw [gate]

/-! ### The round's next node (R146) -/

/-- The search over the addresses ends at the lowest that has the property. -/
theorem nodeNos_find?_eq_some {p : NodeNo → Bool} (here : p a = true) (below : ∀ b < a, p b = false) :
    nodeNos.find? p = some a :=
  Fin.find?_eq_find?_finRange.symm.trans (Fin.find?_eq_some_iff.mpr ⟨here, below⟩)

theorem roundNode_above (polled : s.map.polled a = true) (above : s.loop.pointer ≤ a)
    (lowest : ∀ b : NodeNo, s.loop.pointer ≤ b → b < a → s.map.polled b = false) : roundNode s = some a := by
  have found : (nodeNos.find? fun b => decide (s.loop.pointer ≤ b) && s.map.polled b) = some a :=
    nodeNos_find?_eq_some (by simp [above, polled]) fun b below => by
      by_cases reached : s.loop.pointer ≤ b
      · simp [lowest b reached below]
      · simp [reached]
  rw [roundNode, found, Option.some_or]

theorem roundNode_wraps (polled : s.map.polled a = true)
    (nothing : ∀ b : NodeNo, s.loop.pointer ≤ b → s.map.polled b = false)
    (lowest : ∀ b : NodeNo, b < a → s.map.polled b = false) : roundNode s = some a := by
  have missed : (nodeNos.find? fun b => decide (s.loop.pointer ≤ b) && s.map.polled b) = none :=
    List.find?_eq_none.mpr fun b _ both => by
      obtain ⟨above, here⟩ := Bool.and_eq_true_iff.mp both
      exact Bool.false_ne_true ((nothing b (of_decide_eq_true above)).symm.trans here)
  rw [roundNode, missed, Option.none_or, nodeNos_find?_eq_some polled lowest]

theorem roundNode_unpolled (empty : ∀ a : NodeNo, s.map.polled a = false) : roundNode s = none := by
  cases found : roundNode s with
  | none => rfl
  | some a => exact absurd ((empty a).symm.trans (roundNode_polled found)) Bool.false_ne_true

theorem pointerAfter_val (a : NodeNo) : (pointerAfter a).val = if a.val = 39 then 0 else a.val + 1 := by
  have := a.isLt
  simp only [pointerAfter]
  split <;> omega

theorem beginRound_some (found : roundNode s = some a) : beginRound s = { s with loop := { s.loop with
    pointer := pointerAfter a, urgentRun := 0
    exchange := some { node := a, command := pollCommand a s, urgent := false, replyBy := none,
                       discard := false } } } := by
  unfold beginRound
  rw [found]

theorem beginRound_none (idle : roundNode s = none) :
    beginRound s = { s with loop := { s.loop with exchange := none } } := by
  unfold beginRound
  rw [idle]

/-! ### Urgent exchange or round exchange (R145) -/

theorem arbitrate_urgent {j : SwitchNo} {rest : List SwitchNo} (urgent : s.loop.urgent = j :: rest)
    (few : s.loop.urgentRun < 2) : arbitrate s = { s with loop := { s.loop with
      urgentRun := s.loop.urgentRun + 1
      exchange := some { node := switchNode j, command := pollCommand (switchNode j) s, urgent := true,
                         replyBy := none, discard := false } } } := by
  unfold arbitrate
  rw [urgent]
  exact if_pos few

theorem arbitrate_round (round : s.loop.urgent = [] ∨ 2 ≤ s.loop.urgentRun) : arbitrate s = beginRound s := by
  unfold arbitrate
  split
  · next urgent =>
    obtain empty | run := round
    · cases urgent.symm.trans empty
    · exact if_neg (Nat.not_lt.mpr run)
  · rfl

end Arbiter

/-- Settles O53: the urgent list's head, or else the node that the search from the pointer ends at. -/
theorem pollArbiter : Obligations.PollArbiter := by
  intro s
  refine ⟨fun j rest urgent few => ?_, fun round => ⟨fun empty => ?_, fun a polled lowest => ?_⟩, fun a =>
    ⟨fun j node on => ?_, fun j node off => ?_, fun high => pollCommand_gate (nodeSwitch_of_high high)⟩⟩
  · rw [arbitrate_urgent urgent few, pollCommand_urgent (urgent ▸ List.mem_cons_self)]
  · exact (arbitrate_round round).trans (beginRound_none (roundNode_unpolled empty))
  · have found : roundNode s = some a := by
      obtain ⟨above, first⟩ | ⟨nothing, first⟩ := lowest
      · exact roundNode_above polled above first
      · exact roundNode_wraps polled nothing first
    exact ⟨pointerAfter a, pointerAfter_val a, (arbitrate_round round).trans (beginRound_some found)⟩
  · exact node ▸ pollCommand_urgent on
  · rw [node, pollCommand_switchNode, if_neg off]

end Sys2Proof.Machine
end

section
/-!
How an exchange goes on and ends: what a sound reply is (R136), the steps in which it is taken (R139), and the move of
the served address on the urgent list (R144).
-/

namespace Sys2Proof.Machine

section Exchanges

variable {a : NodeNo} {j : SwitchNo} {r : NodeReply} {x : Exchange} {s : State} {t : Time}

/-! ### Sound replies (R136) -/

/-- A reply that R136 lets stand, in the words of the manual. -/
def ReplyStands (r : NodeReply) (a : NodeNo) : Prop :=
  r.sound = true ∧ r.address = a.val ∧ r.detections.length ≤ 2 ∧
    (∀ d ∈ r.detections, d.kind = .gate ↔ 24 ≤ a.val) ∧
    (a.val < 24 → r.position ≠ none ∧ r.position ≠ some .invalid) ∧ (24 ≤ a.val → r.position = none)

theorem kindBelongs_iff (a : NodeNo) (k : SensorKind) : kindBelongs a k = true ↔ (k = .gate ↔ 24 ≤ a.val) := by
  have gate : (nodeSwitch a).isNone = true ↔ 24 ≤ a.val := by simp [nodeSwitch]
  rw [kindBelongs, beq_iff_eq, Bool.eq_iff_iff, beq_iff_eq, gate]

/-- The positions that a node of each of the two kinds can report. -/
theorem positionFits_iff (r : NodeReply) (a : NodeNo) :
    (if (nodeSwitch a).isSome then r.position.isNone || r.position == some .invalid else r.position.isSome) = false ↔
      (a.val < 24 → r.position ≠ none ∧ r.position ≠ some .invalid) ∧ (24 ≤ a.val → r.position = none) := by
  by_cases low : a.val < 24
  · simp [nodeSwitch, low, Option.isSome_iff_ne_none]
  · simp [nodeSwitch, low, Nat.not_lt.mp low]

theorem malformed_eq_false_iff (r : NodeReply) (a : NodeNo) : malformed r a = false ↔ ReplyStands r a := by
  simp only [malformed, ReplyStands, Bool.or_eq_false_iff, positionFits_iff, List.any_eq_false,
    Bool.not_eq_true', Bool.not_eq_false', Bool.not_eq_false, kindBelongs_iff, bne_eq_false_iff_eq,
    decide_eq_false_iff_not, Nat.not_lt, and_assoc]

theorem malformed_of_not_stands (bad : ¬ReplyStands r a) : malformed r a = true :=
  Bool.eq_true_of_not_eq_false (mt (malformed_eq_false_iff r a).mp bad)

/-! ### The steps of a reply (R139) -/

theorem reports_iff (x : ReportedPosition) (c : Position) :
    reports x c = true ↔ (x = .straight ∧ c = .straight) ∨ (x = .thrown ∧ c = .thrown) := by
  cases x <;> cases c <;> simp [reports]

/-- Two records are taken the older first, equal ages in the reply's order. -/
theorem foldl_oldestFirst_pair (a : NodeNo) (s : State) (d e : Detection) :
    (oldestFirst [d, e]).foldl (takeRecord a) s = if min d.age 1000 < min e.age 1000
      then takeRecord a (takeRecord a s e) d else takeRecord a (takeRecord a s d) e :=
  apply_ite (List.foldl (takeRecord a) s) (min d.age 1000 < min e.age 1000) [e, d] [d, e]

theorem takeReply_gate (gate : nodeSwitch a = none) (r : NodeReply) (s : State) :
    takeReply a r s = takeRecords a r (takeAnswer a s) := by
  unfold takeReply
  rw [gate]

theorem takeReply_switchNode {p : ReportedPosition} (position : r.position = some p) (j : SwitchNo) (s : State) :
    takeReply (switchNode j) r s =
      takeRecords (switchNode j) r (takePosition j p (takeAnswer (switchNode j) s)) := by
  unfold takeReply
  rw [nodeSwitch_switchNode, position]

/-! ### The served address (R144) -/

theorem moveServed_gate (gate : nodeSwitch x.node = none) (s : State) : moveServed x s = s := by
  unfold moveServed
  rw [gate]

theorem moveServed_switch (node : nodeSwitch x.node = some j) (s : State) : moveServed x s =
    if x.urgent = true then
      if j ∈ s.loop.urgent then s.setUrgent (s.loop.urgent.filter (· != j) ++ [j]) else s
    else s := by
  unfold moveServed
  rw [node]
  cases x.urgent <;> simp

/-! ### The commands of an exchange (R134) -/

theorem exec_pollSent_idle (running : s.resetHeld = false) (idle : s.loop.exchange = none) :
    exec .pollSent s = .next s := by
  change execPollSent s = _
  rw [execPollSent, whenRunning_running running, idle]

theorem exec_pollSent (running : s.resetHeld = false) (flying : s.loop.exchange = some x) :
    exec .pollSent s = .next (if x.replyBy.isNone then
      { s with loop := { s.loop with exchange := some { x with replyBy := some (s.clock + 2) } } } else s) := by
  change execPollSent s = _
  rw [execPollSent, whenRunning_running running, flying]
  rfl

theorem exec_replyTimeout_idle (running : s.resetHeld = false) (idle : s.loop.exchange = none) :
    exec .replyTimeout s = .next s := by
  change execReplyTimeout s = _
  rw [execReplyTimeout, whenRunning_running running, idle]

theorem exec_replyTimeout (running : s.resetHeld = false) (flying : s.loop.exchange = some x) :
    exec .replyTimeout s = .next (if due s.clock x.replyBy then endExchange x (takeMiss x.node) s else s) := by
  change execReplyTimeout s = _
  rw [execReplyTimeout, whenRunning_running running, flying]

theorem exec_replyReceived_idle (running : s.resetHeld = false) (idle : s.loop.exchange = none) (r : NodeReply) :
    exec (.replyReceived r) s = .next s := by
  change execReplyReceived r s = _
  rw [execReplyReceived, whenRunning_running running, idle]

theorem exec_replyReceived (running : s.resetHeld = false) (flying : s.loop.exchange = some x) (r : NodeReply) :
    exec (.replyReceived r) s = .next (if x.replyBy.isSome && !due s.clock x.replyBy then
      endExchange x (if malformed r x.node then takeMiss x.node else takeReply x.node r) s else s) := by
  change execReplyReceived r s = _
  rw [execReplyReceived, whenRunning_running running, flying]

theorem exec_replyTimeout_reached (running : s.resetHeld = false) (flying : s.loop.exchange = some x)
    (sent : x.replyBy = some t) (late : reached s.clock t = true) :
    exec .replyTimeout s = .next (endExchange x (takeMiss x.node) s) :=
  (exec_replyTimeout running flying).trans (congrArg _ (if_pos (by simp [due, sent, late])))

theorem exec_replyReceived_inTime (running : s.resetHeld = false) (flying : s.loop.exchange = some x)
    (sent : x.replyBy = some t) (early : reached s.clock t = false) (r : NodeReply) : exec (.replyReceived r) s =
      .next (endExchange x (if malformed r x.node then takeMiss x.node else takeReply x.node r) s) :=
  (exec_replyReceived running flying r).trans (congrArg _ (if_pos (by simp [due, sent, early])))

/-! ### The end of an exchange (R133, R145) -/

theorem endExchange_discarded (left : x.discard = true) (outcome : State → State) :
    endExchange x outcome s = arbitrate s := congrArg arbitrate (if_pos left)

theorem endExchange_taken (counts : x.discard = false) (outcome : State → State) :
    endExchange x outcome s = arbitrate (moveServed x (outcome s)) := congrArg arbitrate (if_neg (by simp [counts]))

end Exchanges

/-- Settles O51: no exchange, one whose poll has not been sent, and one whose reply timer runs; the last by whether
the timer has been reached, by whether the outcome counts, and by the reply. -/
theorem exchangesEnd : Obligations.ExchangesEnd := by
  intro s running
  refine ⟨fun idle => ⟨exec_pollSent_idle running idle, exec_replyTimeout_idle running idle,
    exec_replyReceived_idle running idle⟩, fun x flying => ?_⟩
  have pollSent := exec_pollSent running flying
  have timeout := exec_replyTimeout running flying
  have received := exec_replyReceived running flying
  refine ⟨fun unsent => ?_, fun t sent => ?_⟩
  · rw [unsent] at pollSent timeout received
    exact ⟨pollSent, timeout, received⟩
  have expired := exec_replyTimeout_reached running flying sent
  have answered := exec_replyReceived_inTime running flying sent
  rw [sent] at pollSent timeout received
  intro finish
  have finished (u : State) : arbitrate (moveServed x u) = finish u := by
    refine congrArg arbitrate ?_
    cases node : nodeSwitch x.node with
    | none => exact (moveServed_gate node u).trans (ite_self u).symm
    | some j => exact moveServed_switch node u
  refine ⟨pollSent, fun early => ?_, fun late r => ?_, fun left => ⟨fun late => ?_, fun early r => ?_⟩,
    fun counts => ⟨fun late => ?_, fun early r => ?_⟩⟩
  · exact timeout.trans (congrArg _ (if_neg (by simp [due, early])))
  · exact (received r).trans (congrArg _ (if_neg (by simp [due, late])))
  · rw [expired late, endExchange_discarded left]
  · rw [answered early, endExchange_discarded left]
  · rw [expired late, endExchange_taken counts, finished]
  intro sound drop records
  have recorded (stands : sound) (u : State) : takeRecords x.node r u = records u := by
    refine congrArg drop ?_
    obtain ⟨-, -, short, -⟩ := stands
    match r.detections, short with
    | [], _ => rfl
    | [d], _ => rfl
    | [d, e], _ => exact foldl_oldestFirst_pair x.node u d e
  have replied (stands : sound) : exec (.replyReceived r) s = .next (finish (takeReply x.node r s)) := by
    rw [answered early, endExchange_taken counts, (malformed_eq_false_iff r x.node).mpr stands, finished]
    rfl
  refine ⟨fun bad => ?_, fun stands high => ?_, fun stands j p node position => ?_⟩
  · rw [answered early, endExchange_taken counts, malformed_of_not_stands bad, finished]
    rfl
  · rw [replied stands, takeReply_gate (nodeSwitch_of_high high), recorded stands]
  intro u equal
  have taken : takeReply x.node r s =
      records (if reports p u.switches[j].commanded then leaveUrgent j u else u) := by
    rw [← recorded stands]
    simp only [u, node]
    exact takeReply_switchNode position j s
  refine ⟨fun same => ?_, fun other => ?_⟩
  · rw [replied stands, taken, if_pos ((reports_iff ..).mpr same)]
    rfl
  · rw [replied stands, taken, if_neg (mt (reports_iff ..).mp other)]

end Sys2Proof.Machine
end

section
/-!
O59. What a command can do to the frame builder and to the ports, said once for every command: the frame builder
publishes, is fetched from, takes a trim or is reset, and a port is selected, clocked, answered, deselected or reset.
Each of these moves keeps the laws, so every step does.
-/

namespace Sys2Proof.Machine

/-! ### Moves of the frame builder -/

/-- What one command can do to the frame builder (R150, R152, R153, R158). -/
inductive FrameBuilder.Move (f : FrameBuilder) : FrameBuilder → Prop where
  | stays : Move f f
  | trims (n : Nat) : Move f { f with trim := n }
  | publishes (x : CarFrame) : Move f (f.publish x)
  | fetched (published : f.published.isSome = true) : Move f { f with fetched := true, framePending := false }
  | resets : Move f FrameBuilder.reset

theorem FrameBuilder.countMiss_le {f : FrameBuilder} (h : f.missed ≤ 65535) : f.countMiss ≤ 65535 := by
  unfold countMiss
  split
  · exact bump_le h
  · exact h

/-- Every move keeps the frame law: a publication takes the frame's number and waits for a fetch, and a fetch finds
a frame published. -/
theorem FrameLaw.move {s t : State} (h : FrameLaw s) (m : s.frames.Move t.frames) : FrameLaw t := by
  obtain ⟨seq, fetched, pending, missed⟩ := h
  generalize moved : t.frames = g at m
  cases m with
  | stays => exact ⟨by rwa [moved], by rwa [moved], by rwa [moved], by rwa [moved]⟩
  | trims n => exact ⟨by rwa [moved], by rwa [moved], by rwa [moved], by rwa [moved]⟩
  | publishes x =>
    refine ⟨fun y published => ?_, ?_, ?_, ?_⟩ <;> rw [moved] at *
    · exact congrArg CarFrame.seq (Option.some.inj published).symm
    · exact nofun
    · rfl
    · exact FrameBuilder.countMiss_le missed
  | fetched published =>
    refine ⟨by rwa [moved], fun _ => by rwa [moved], ?_, by rwa [moved]⟩
    rw [moved]
    exact (Bool.and_false _).symm
  | resets =>
    refine ⟨fun y published => ?_, ?_, ?_, ?_⟩ <;> rw [moved] at *
    · cases published
    · exact nofun
    · rfl
    · exact Nat.zero_le _

/-! ### Moves of a port -/

/-- A port in TAKING enters REPLYING with a composed reply (R178). -/
def answerPort (r : Reply) (x : PortState) : PortState :=
  { x with phase := .replying, reply := some { bytes := r.bytes, sent := 0 } }

/-- What one command can do to a port, in one move after another (R176 to R179). -/
inductive PortState.Move : PortState → PortState → Prop where
  | stays (x : PortState) : Move x x
  | selected (x : PortState) : Move x (selectPort x)
  | clocked (b : Byte) (x : PortState) : Move x (clockByte b x)
  | answered {x : PortState} (taking : x.phase = .taking) (r : Reply) : Move x (answerPort r x)
  | deselected (x : PortState) : Move x (deselectPort x)
  | resets (x : PortState) (d : Drive) : Move x (PortState.reset d)
  | trans {x y z : PortState} : Move x y → Move y z → Move x z

/-- A port's part of the port law: its phase fits its request and reply, and its counts stop. -/
structure PortState.Kept (x : PortState) : Prop where
  lawful : x.lawful
  filler : x.filler ≤ 16
  aborted : x.aborted ≤ 255
  cut : x.cut ≤ 255

theorem portLaw_iff {s : State} : PortLaw s ↔ ∀ p, (s.ports.get p).Kept :=
  forall_congr' fun _ => ⟨fun ⟨lawful, filler, aborted, cut⟩ => ⟨lawful, filler, aborted, cut⟩,
    fun ⟨lawful, filler, aborted, cut⟩ => ⟨lawful, filler, aborted, cut⟩⟩

namespace PortState.Kept

variable {x : PortState} (h : x.Kept)

include h

theorem selectPort : (selectPort x).Kept := by
  unfold Machine.selectPort
  split
  · exact ⟨⟨rfl, rfl⟩, Nat.zero_le _, h.aborted, h.cut⟩
  · exact h

theorem deselectPort : (deselectPort x).Kept := by
  refine ⟨⟨rfl, rfl⟩, h.filler, ?_, ?_⟩ <;> unfold Machine.deselectPort <;> dsimp only <;> split
  · exact bump_le h.aborted
  · exact h.aborted
  · exact bump_le h.cut
  · exact h.cut

/-- A received byte ends the request, and the port is TAKING, or leaves it unfinished (R177, R178). -/
theorem receiveByte (receiving : x.phase = .receiving) (b : Byte) : (receiveByte x b).Kept := by
  obtain ⟨-, unanswered⟩ : _ ∧ x.reply = none := by simpa [PortState.lawful, receiving] using h.lawful
  refine ⟨?_, h.filler, h.aborted, h.cut⟩
  cases ended : (addByte x.request b).hasEnded <;> simp [PortState.lawful, Machine.receiveByte, ended, unanswered]

/-- A sent byte is the reply's last, and the port is DONE, or leaves more to send (R178). -/
theorem sendByte (replying : x.phase = .replying) : (sendByte x).Kept := by
  obtain ⟨ended, r, reply, more⟩ : _ ∧ ∃ r, x.reply = some r ∧ r.sent < r.bytes.length := by
    simpa [PortState.lawful, replying] using h.lawful
  refine ⟨?_, by simpa [Machine.sendByte, reply] using h.filler, by simpa [Machine.sendByte, reply] using h.aborted,
    by simpa [Machine.sendByte, reply] using h.cut⟩
  obtain last | left := Nat.lt_or_ge (r.sent + 1) r.bytes.length |>.symm
  · simp [PortState.lawful, Machine.sendByte, reply, ended, last]
    omega
  · simp [PortState.lawful, Machine.sendByte, reply, ended, Nat.not_le.mpr left, left]

theorem clockByte (b : Byte) : (clockByte b x).Kept := by
  have law := h.lawful
  unfold Machine.clockByte
  split
  · exact h
  · next receiving => exact h.receiveByte receiving b
  · next replying => exact h.sendByte replying
  · next taking => exact ⟨by simpa [PortState.lawful, taking] using law, bump_le h.filler, h.aborted, h.cut⟩
  · next done => exact ⟨by simpa [PortState.lawful, done] using law, h.filler, h.aborted, h.cut⟩

/-- A reply frame has its three leading bytes still to send (R178). -/
theorem answerPort (taking : x.phase = .taking) (r : Reply) : (answerPort r x).Kept := by
  obtain ⟨ended, -⟩ : x.request.any Frame.hasEnded = true ∧ _ := by simpa [PortState.lawful, taking] using h.lawful
  exact ⟨⟨ended, _, rfl, Nat.zero_lt_succ _⟩, h.filler, h.aborted, h.cut⟩

omit h in
theorem reset (d : Drive) : (PortState.reset d).Kept :=
  ⟨⟨rfl, rfl⟩, Nat.zero_le _, Nat.zero_le _, Nat.zero_le _⟩

theorem move {y : PortState} (m : x.Move y) : y.Kept := by
  induction m with
  | stays => exact h
  | selected => exact h.selectPort
  | clocked b => exact h.clockByte b
  | answered taking r => exact h.answerPort taking r
  | deselected => exact h.deselectPort
  | resets _ d => exact reset d
  | trans _ _ first second => exact second (first h)

end PortState.Kept

/-! ### What leaves the ports and the frame builder alone -/

/-- The ports and the frame builder of the whole state. -/
def State.outputs (s : State) : PerPort PortState × FrameBuilder := (s.ports, s.frames)

/-- The state `t` has the ports and the frame builder of `s`. -/
def SameOutputs (s t : State) : Prop := t.outputs = s.outputs

section Outside

variable {s t : State}

theorem SwitchFootprint.outputs (e : SwitchFootprint s t) : t.outputs = s.outputs := by rw [e]; rfl

theorem TrackFootprint.outputs (e : TrackFootprint s t) : t.outputs = s.outputs := by rw [e]; rfl

theorem UseFootprint.outputs (e : UseFootprint s t) : t.outputs = s.outputs := by rw [e]; rfl

theorem HandsetFootprint.outputs (e : HandsetFootprint s t) : t.outputs = s.outputs := by rw [e]; rfl

theorem PairingFootprint.outputs (e : PairingFootprint s t) : t.outputs = s.outputs := by rw [e]; rfl

theorem arbitrate_outputs (s : State) : (arbitrate s).outputs = s.outputs := by
  rw [arbitrate_footprint]
  rfl

theorem wakeLoop_outputs (s : State) : (wakeLoop s).outputs = s.outputs := by
  rw [wakeLoop_footprint]
  rfl

theorem haltRace_outputs (cause : RaceCause) (s : State) : (haltRace cause s).outputs = s.outputs :=
  (haltRace_switchFootprint cause s).outputs

theorem takeRailFault_outputs (s : State) : (takeRailFault s).outputs = s.outputs := by
  unfold takeRailFault
  dsimp only
  split
  · exact haltRace_outputs .rail _
  · exact haltRace_outputs .rail _
  · rfl
  · rfl

theorem storeSwitch_outputs (j : SwitchNo) (r : Switch) (s : State) : (storeSwitch j r s).outputs = s.outputs :=
  (wakeLoop_outputs _).trans (followSwitchUse_useFootprint _ _ j _).outputs

theorem storeGate_outputs (g : Fin 16) (r : Gate) (s : State) : (storeGate g r s).outputs = s.outputs := by
  refine (wakeLoop_outputs _).trans ?_
  rw [followGateUse_footprint]
  rfl

theorem storeProfile_outputs (c : CarNo) (p : Profile) (s : State) : (storeProfile c p s).outputs = s.outputs := by
  unfold storeProfile dissolveDisabled
  dsimp only
  split
  · split <;> rfl
  · rfl

theorem applyScan_outputs (setCode intervalCode : Nat) (s : State) :
    (applyScan setCode intervalCode s).outputs = s.outputs := by
  rw [applyScan_footprint]
  rfl

theorem confirmWrite_outputs (p : SaveProgress) (s : State) : (confirmWrite p s).outputs = s.outputs := by
  rw [confirmWrite_footprint]
  rfl

theorem moveServed_outputs (x : Exchange) (s : State) : (moveServed x s).outputs = s.outputs := by
  rw [moveServed_footprint]
  rfl

theorem endExchange_outputs (x : Exchange) {outcome : State → State} (e : TrackFootprint s (outcome s)) :
    (endExchange x outcome s).outputs = s.outputs := by
  refine (arbitrate_outputs _).trans ?_
  split
  · rfl
  · exact (moveServed_outputs x _).trans e.outputs

end Outside

/-! ### Owners of requests

Each owner that tests its body leaves the state as it was, or makes the change that it is for. -/

section Shapes

variable {P : State → Prop} {s : State} (body : List Byte) (h : P s)

include h

theorem writeProfile_keeps (stored : ∀ c p, P (storeProfile c p s)) : P (writeProfile body s).1 := by
  unfold writeProfile
  split
  · dsimp only
    split
    · exact h
    · split
      · exact h
      · split
        · split
          · exact stored _ _
          · exact h
        · exact h
  · exact h

theorem writeCalibration_keeps (stored : ∀ n f, P (s.modifyHandset n f)) : P (writeCalibration body s).1 := by
  unfold writeCalibration
  split
  · dsimp only
    split
    · exact h
    · split
      · split
        · exact stored _ _
        · exact h
      · exact h
  · exact h

theorem setScan_keeps (applied : ∀ setCode intervalCode, P (applyScan setCode intervalCode s)) :
    P (setScan body s).1 := by
  unfold setScan
  split
  · split
    · exact h
    · split
      · exact h
      · exact applied _ _
  · exact h

theorem bindRequest_keeps (bound : ∀ n c, P (makeBinding n c .console (leaveQueue n s))) :
    P (bindRequest body s).1 := by
  unfold bindRequest bindPair
  split
  · split
    · split
      · exact h
      · split
        · exact h
        · split
          · exact h
          · exact bound _ _
    · exact h
  · exact h

theorem unbindRequest_keeps (dissolved : ∀ n c, P (dissolve n c .console s)) (cancelled : ∀ n, P (cancelSeek n s)) :
    P (unbindRequest body s).1 := by
  unfold unbindRequest unbindHandset
  split
  · split
    · split
      · exact h
      · split
        · exact dissolved _ _
        · exact cancelled _
        · exact h
    · exact h
  · exact h

theorem setLimits_keeps (stored : ∀ l, P { s with limits := l }) : P (setLimits body s).1 := by
  unfold setLimits
  split
  · dsimp only
    split
    · exact h
    · split
      · exact h
      · split
        · exact h
        · exact stored _
  · exact h

end Shapes

section Owners

variable {s : State} (body : List Byte)

theorem mapWrite_outputs {inRange : Bool} {store : State → State} (stored : (store s).outputs = s.outputs) :
    (mapWrite inRange store s).1.outputs = s.outputs :=
  mapWrite_keeps (P := SameOutputs s) rfl fun _ _ => stored

theorem enterRun_outputs {enter : State → State}
    (entered : (enter { s with mapValid := true }).outputs = s.outputs) : (enterRun enter s).1.outputs = s.outputs :=
  enterRun_keeps (P := SameOutputs s) rfl (fun _ => rfl) entered

theorem switchRequest_outputs {act : SwitchNo → State → State × Reply}
    (acted : ∀ j, SwitchFootprint s (act j s).1) : (switchRequest act body s).1.outputs = s.outputs :=
  switchRequest_keeps (P := SameOutputs s) rfl fun j => (acted j).outputs

variable (s)

/-- Only FETCH FRAME and SET CYCLE TRIM have an owner that changes the frame builder, and none changes a port. -/
theorem owner_outputs (p : Port) {x : Request} (noFetch : x ≠ .fetchFrame) (noTrim : x ≠ .setCycleTrim) :
    (ownerOf p x body s).1.outputs = s.outputs := by
  cases x with
  | identify | status | readEvents | clearQueue | badTarget | readPairing => rfl
  | setEventMask => dsimp only [ownerOf]; unfold setMask; split <;> rfl
  | clearFlags => dsimp only [ownerOf]; unfold clearFlags; split <;> rfl
  | start =>
    dsimp only [ownerOf]
    unfold startRace
    split
    · exact enterRun_outputs rfl
    all_goals rfl
  | caution => dsimp only [ownerOf]; unfold cautionRace; split <;> rfl
  | clearCaution => dsimp only [ownerOf]; unfold clearCautionRace; split <;> rfl
  | halt =>
    dsimp only [ownerOf]
    unfold haltRequest
    split
    · rfl
    all_goals rw [accept_state, haltRace_outputs]
  | resume =>
    dsimp only [ownerOf]
    unfold resumeRace
    split
    · exact enterRun_outputs rfl
    all_goals rfl
  | setup => dsimp only [ownerOf]; unfold setupRace; split <;> rfl
  | railFault => exact takeRailFault_outputs s
  | railClear => dsimp only [ownerOf]; unfold clearRail; split <;> rfl
  | writeSegment =>
    dsimp only [ownerOf]
    unfold writeSegment
    split
    · dsimp only
      split <;> exact mapWrite_outputs rfl
    · rfl
  | writeSwitch =>
    dsimp only [ownerOf]
    unfold writeSwitch
    split
    · dsimp only
      split
      · exact mapWrite_outputs (storeSwitch_outputs _ _ s)
      · exact mapWrite_outputs rfl
    · rfl
  | writeGate =>
    dsimp only [ownerOf]
    unfold writeGate
    split
    · dsimp only
      split
      · exact mapWrite_outputs (storeGate_outputs _ _ s)
      · exact mapWrite_outputs rfl
    · rfl
  | setPairingGate =>
    dsimp only [ownerOf]
    unfold setPairingGate
    split
    · exact mapWrite_outputs rfl
    · rfl
  | validateMap => dsimp only [ownerOf]; unfold validateMap; split <;> rfl
  | readSegment => exact congrArg State.outputs (readSegment_state body s)
  | readSwitch => exact congrArg State.outputs (readSwitch_state body s)
  | readGate => exact congrArg State.outputs (readGate_state body s)
  | readCar => exact congrArg State.outputs (readCar_state body s)
  | readHandset => exact congrArg State.outputs (readHandset_state body s)
  | readNode => exact congrArg State.outputs (readNode_state body s)
  | readRaw =>
    dsimp only [ownerOf]
    unfold readRaw
    split
    · split <;> rfl
    · rfl
  | writeProfile => exact writeProfile_keeps (P := SameOutputs s) body rfl fun c p => storeProfile_outputs c p s
  | writeCalibration => exact writeCalibration_keeps (P := SameOutputs s) body rfl fun _ _ => rfl
  | setScan => exact setScan_keeps (P := SameOutputs s) body rfl fun a b => applyScan_outputs a b s
  | postSamples => exact (takeSamples_handsetFootprint body.tail s).outputs
  | bind => exact bindRequest_keeps (P := SameOutputs s) body rfl fun _ _ => rfl
  | unbind => exact unbindRequest_keeps (P := SameOutputs s) body rfl (fun _ _ => rfl) fun _ => rfl
  | lockSwitch => exact switchRequest_outputs body fun j => lockSwitch_switchFootprint j s
  | unlockSwitch => exact switchRequest_outputs body fun j => unlockSwitch_switchFootprint j s
  | clearSwitch => exact switchRequest_outputs body fun j => clearSwitch_switchFootprint j s
  | fetchFrame => exact absurd rfl noFetch
  | setCycleTrim => exact absurd rfl noTrim
  | setLimits => exact setLimits_keeps (P := SameOutputs s) body rfl fun _ => rfl
  | saveImage | loadImage => exact storeRequest_keeps (P := SameOutputs s) rfl rfl
  | restart => dsimp only [ownerOf]; unfold acceptRestart; split <;> rfl

end Owners

/-! ### What a command does to the ports and the frame builder -/

/-- From `s` to `t` the frame builder has made one move, and each port its moves. -/
structure Moved (s t : State) : Prop where
  frames : s.frames.Move t.frames
  ports : ∀ p, (s.ports.get p).Move (t.ports.get p)

section Commands

variable {s t u : State}

theorem Moved.of_frames (ports : t.ports = s.ports) (m : s.frames.Move t.frames) : Moved s t :=
  ⟨m, fun p => by rw [ports]; exact .stays _⟩

theorem Moved.of_outputs (same : t.outputs = s.outputs) : Moved s t := by
  obtain ⟨ports, frames⟩ := Prod.mk.inj same
  exact .of_frames ports (by rw [frames]; exact .stays)

theorem Moved.refl (s : State) : Moved s s := .of_outputs rfl

theorem Moved.modifyPort (h : Moved s u) (p : Port) {f : PortState → PortState}
    (m : (u.ports.get p).Move (f (u.ports.get p))) : Moved s (u.modifyPort p f) := by
  refine ⟨h.frames, fun q => (h.ports q).trans ?_⟩
  show (u.ports.get q).Move ((u.ports.update p f).get q)
  rw [PerPort.get_update]
  split
  · next same => subst same; exact m
  · exact .stays _

theorem moved_powerOn (x : Straps) (s u : State) : Moved s (powerOn x u) :=
  ⟨.resets, fun p => by cases p <;> exact .resets _ _⟩

/-- No request's owner changes a port, and the frame builder makes one move at most. -/
theorem owner_moves (p : Port) (x : Request) (body : List Byte) (s : State) :
    (ownerOf p x body s).1.ports = s.ports ∧ s.frames.Move (ownerOf p x body s).1.frames := by
  by_cases fetch : x = .fetchFrame
  · subst fetch
    dsimp only [ownerOf]
    unfold fetchFrame
    split
    · exact ⟨rfl, .stays⟩
    · next published => exact ⟨rfl, .fetched (by rw [published]; rfl)⟩
  by_cases trim : x = .setCycleTrim
  · subst trim
    dsimp only [ownerOf]
    unfold setCycleTrim
    split
    · split
      · exact ⟨rfl, .stays⟩
      · split
        · exact ⟨rfl, .stays⟩
        · exact ⟨rfl, .trims _⟩
    · exact ⟨rfl, .stays⟩
  obtain ⟨ports, frames⟩ := Prod.mk.inj (owner_outputs s body p fetch trim)
  exact ⟨ports, by rw [frames]; exact .stays⟩

/-- A reply is composed on a port that an ended frame holds in TAKING. -/
theorem Moved.enterReplying {p : Port} {f : Frame} (ended : endedFrame p s = some f) (r : Reply)
    (ports : u.ports = s.ports) (frames : s.frames.Move u.frames) : Moved s (enterReplying p r u) := by
  refine (Moved.of_frames ports frames).modifyPort p (.answered ?_ r)
  rw [ports]
  exact (endedFrame_eq_some_iff.mp ended).1

theorem answerFrame_moved {p : Port} {f : Frame} (ended : endedFrame p s = some f) (x : Request) :
    Moved s (answerFrame x p (ownerOf p x) f s) := by
  unfold answerFrame
  split
  · exact .enterReplying ended _ rfl .stays
  · obtain ⟨ports, frames⟩ := owner_moves p x f.body s
    exact .enterReplying ended _ ports frames

theorem takeEndedFrame_moved (p : Port) (s : State) : Moved s (takeEndedFrame p s) := by
  unfold takeEndedFrame
  split
  · exact .refl s
  · next ended =>
    split
    · exact answerFrame_moved ended _
    · exact .enterReplying ended _ rfl .stays

theorem clockPort_moved (p : Port) (b : Byte) (s : State) : Moved s (clockPort p b s) := by
  unfold clockPort
  dsimp only
  split
  · exact (takeEndedFrame_moved p s).modifyPort p (.clocked b _)
  · exact (Moved.refl s).modifyPort p (.clocked b _)

theorem raiseSelect_moved (p : Port) (s : State) : Moved s (raiseSelect p s) := by
  unfold raiseSelect
  dsimp only
  split
  · exact moved_powerOn _ s _
  · exact (takeEndedFrame_moved p s).modifyPort p (.deselected _)

theorem completeLoad_moved (s : State) : Moved s (completeLoad s) := by
  unfold completeLoad
  split
  · exact .of_outputs rfl
  · obtain ⟨ports, frames⟩ : (applyLoad s.memory s).ports = s.ports ∧
        (applyLoad s.memory s).frames = { s.frames with trim := s.memory.trim } := by
      rw [applyLoad_eq]
      exact Prod.mk.inj (wakeLoop_outputs _)
    exact .of_frames ports (by rw [frames]; exact .trims _)

/-- A command under the reset pin's guard moves nothing, or what its own effect moves. -/
theorem whenRunning_moved {f : State → State} (e : whenRunning s f = .next t) (effect : Moved s (f s)) : Moved s t :=
  whenRunning_keeps (P := Moved s) e (.refl s) fun _ => effect

/-- Every command's moves: a request's owner and reply, a port's own, a cycle end's, a load's and a reset's. -/
theorem exec_moved (i : Instr) (e : exec i s = .next t) : Moved s t := by
  cases i using instr_rowCases with
  | request x p =>
    rw [exec_request] at e
    refine whenRunning_moved e ?_
    split
    · exact .refl s
    · next ended =>
      split
      · exact answerFrame_moved ended x
      · exact .refl s
  | chipSelectFall p =>
    dsimp only [exec, execChipSelectFall] at e
    exact whenRunning_moved e ((Moved.refl s).modifyPort p (.selected _))
  | chipSelectRise p => exact whenRunning_moved e (raiseSelect_moved p s)
  | unknownRequest p =>
    dsimp only [exec, execUnknownRequest, serveUnknown] at e
    refine whenRunning_moved e ?_
    split
    · exact .refl s
    · next ended =>
      split
      · exact .refl s
      · exact .enterReplying ended _ rfl .stays
  | masterSendsByte p b => exact whenRunning_moved e (clockPort_moved p b s)
  | resetPinAssert =>
    obtain rfl := Host.Outcome.next.inj e
    exact .of_outputs rfl
  | powerOnReset x =>
    obtain rfl := Host.Outcome.next.inj e
    exact moved_powerOn x s s
  | intervalTimerExpiry =>
    dsimp only [exec, execIntervalTimerExpiry] at e
    refine whenRunning_moved e (.of_outputs ?_)
    split <;> rfl
  | roundResult ch raw pressed =>
    dsimp only [exec, execRoundResult] at e
    refine whenRunning_moved e (.of_outputs ?_)
    split
    · rfl
    · split
      · exact (takeWiredResult_handsetFootprint _ _ _ _).outputs
      · rfl
  | holdEnd n =>
    dsimp only [exec, execHoldEnd] at e
    refine whenRunning_moved e (.of_outputs ?_)
    split <;> rfl
  | lostTime n =>
    dsimp only [exec, execLostTime] at e
    refine whenRunning_moved e (.of_outputs ?_)
    split <;> rfl
  | holdTimerExpiry n =>
    dsimp only [exec, execHoldTimerExpiry] at e
    refine whenRunning_moved e (.of_outputs ?_)
    split
    · exact (seekRequest_pairingFootprint n _).outputs
    · rfl
  | seekTimerExpiry n =>
    dsimp only [exec, execSeekTimerExpiry] at e
    refine whenRunning_moved e (.of_outputs ?_)
    split
    · rfl
    · split <;> rfl
  | intentExpiry c =>
    dsimp only [exec, execIntentExpiry] at e
    refine whenRunning_moved e (.of_outputs ?_)
    split <;> rfl
  | ageExpiry c =>
    dsimp only [exec, execAgeExpiry] at e
    refine whenRunning_moved e (.of_outputs ?_)
    split <;> rfl
  | staleExpiry j c =>
    dsimp only [exec, execStaleExpiry] at e
    refine whenRunning_moved e (.of_outputs ?_)
    split
    · rfl
    · exact (returnIfEmpty_switchFootprint j _).outputs
  | deadlineExpiry j =>
    dsimp only [exec, execDeadlineExpiry] at e
    refine whenRunning_moved e (.of_outputs ?_)
    split
    · exact (enterFault_switchFootprint j _ s).outputs
    · rfl
  | cycleEnd =>
    dsimp only [exec, execCycleEnd] at e
    refine whenRunning_moved e ?_
    split
    · exact .of_frames rfl (.publishes _)
    · exact .refl s
  | pollSent =>
    dsimp only [exec, execPollSent] at e
    refine whenRunning_moved e (.of_outputs ?_)
    split
    · rfl
    · split <;> rfl
  | replyReceived r =>
    dsimp only [exec, execReplyReceived] at e
    refine whenRunning_moved e (.of_outputs ?_)
    split
    · rfl
    · split
      · refine endExchange_outputs _ ?_
        split
        · exact takeMiss_trackFootprint _ s
        · exact takeReply_trackFootprint _ r s
      · rfl
  | replyTimeout =>
    dsimp only [exec, execReplyTimeout] at e
    refine whenRunning_moved e (.of_outputs ?_)
    split
    · rfl
    · split
      · exact endExchange_outputs _ (takeMiss_trackFootprint _ s)
      · rfl
  | saveWriteConfirm =>
    dsimp only [exec, execSaveWriteConfirm] at e
    refine whenRunning_moved e (.of_outputs ?_)
    split
    · exact confirmWrite_outputs _ s
    all_goals rfl
  | saveWriteTimeout =>
    dsimp only [exec, execSaveWriteTimeout] at e
    refine whenRunning_moved e (.of_outputs ?_)
    split
    · split <;> rfl
    all_goals rfl
  | loadComplete =>
    dsimp only [exec, execLoadComplete] at e
    refine whenRunning_moved e ?_
    split
    · exact completeLoad_moved s
    all_goals exact .refl s

end Commands

/-! ### The laws -/

/-- A property that the moves keep is kept by every step: the queue, the choices and the passing of time move
nothing. -/
theorem keptByEveryStep_of_moved {P : State → Prop} (move : ∀ {s t}, P s → Moved s t → P t) : KeptByEveryStep P :=
  keptByEveryStep_of_exec (fun i _ _ h e => move h (exec_moved i e)) (fun _ _ h => move h (.of_outputs rfl))
    (fun _ _ h => move h (.of_outputs rfl)) fun _ h => move h (.of_outputs rfl)

theorem PortLaw.move {s t : State} (h : PortLaw s) (m : Moved s t) : PortLaw t :=
  portLaw_iff.mpr fun p => (portLaw_iff.mp h p).move (m.ports p)

/-- Settles O59: every command makes moves alone, and each keeps both laws. -/
theorem frameAndPortLawsKept : Obligations.FrameAndPortLawsKept :=
  ⟨keptByEveryStep_of_moved fun h m => h.move m.frames, keptByEveryStep_of_moved PortLaw.move⟩

end Sys2Proof.Machine
end

section
/-!
O55. A cycle end: what is published, the step of each car in the words of R154, the word's fields one by one (R155),
and what CAR takes of it (R156).
-/

namespace Sys2Proof.Machine

section CycleEnds

variable {s : State}

/-! ### Cycle ends (R151, R153) -/

theorem exec_cycleEnd (running : s.resetHeld = false) :
    exec .cycleEnd s = .next (if s.now.hasReached s.frames.cycleEnd then publishFrame s else s) :=
  whenRunning_running running _

/-- A frame published and not fetched since is missed, and the count stops at its cap (R153 stage 2). -/
theorem FrameBuilder.countMiss_eq (f : FrameBuilder) : f.countMiss =
    if f.published ≠ none ∧ f.fetched = false ∧ f.missed < 65535 then f.missed + 1 else f.missed := by
  unfold countMiss bump
  cases f.published <;> cases f.fetched <;> simp

/-! ### Steps (R154) -/

/-- The step that a car is driven with: its handset's, or while unbound the pace step of a pace car. -/
def drivenStep (s : State) (c : CarNo) : Nat :=
  match s.cars[c].binding with
  | some h => s.handsets[h].step
  | none => if s.cars[c].profile.pace then s.limits.paceStep else 0

/-- R154's table: nothing for a disabled car and outside a race, and the caution step as a limit in CAUTION. -/
theorem publishedStep_eq (s : State) (c : CarNo) : publishedStep s c =
    if s.cars[c].profile.enabled = false ∨ s.race = .setup ∨ s.race = .halt then 0
    else if s.race = .caution then min (drivenStep s c) s.limits.cautionStep else drivenStep s c := by
  by_cases enabled : s.cars[c].profile.enabled = true
  · have carried : publishedStep s c = match s.race with
        | .setup | .halt => 0
        | .run => drivenStep s c
        | .caution => min (drivenStep s c) s.limits.cautionStep := if_neg (by rw [enabled]; exact nofun)
    rw [carried, enabled]
    cases s.race <;> rfl
  · have disabled : s.cars[c].profile.enabled = false := Bool.eq_false_iff.mpr enabled
    rw [if_pos (.inl disabled)]
    exact if_pos (by rw [disabled]; rfl)

/-! ### Words (R155) -/

/-- The fields of a word bit by bit, from the step's six up. -/
theorem joinedFields_getLsbD (step : BitVec 6) (brake intent caution enabled : Bool) (n : Nat) :
    ((0 : BitVec 6) ++ BitVec.ofBool enabled ++ BitVec.ofBool caution ++ BitVec.ofBool intent ++
        BitVec.ofBool brake ++ step).getLsbD n =
      if n < 6 then step.getLsbD n
      else if n = 6 then brake
      else if n = 7 then intent
      else if n = 8 then caution
      else if n = 9 then enabled else false := by
  simp only [BitVec.getLsbD_append, BitVec.getLsbD_ofBool]
  split_ifs <;> grind

section Words

variable (s) (c : CarNo)

theorem carWord_getLsbD (n : Nat) : (carWord s c).getLsbD n =
    if n < 6 then (BitVec.ofNat 6 (publishedStep s c)).getLsbD n
    else if n = 6 then s.cars[c].profile.enabled && publishedStep s c == 0
    else if n = 7 then s.cars[c].profile.enabled && s.cars[c].intent.isSome
    else if n = 8 then s.cars[c].profile.enabled && s.race == .caution
    else if n = 9 then s.cars[c].profile.enabled && true else false :=
  joinedFields_getLsbD ..

theorem carWord_step : (carWord s c).extractLsb' 0 6 = BitVec.ofNat 6 (publishedStep s c) := by
  ext i hi
  rw [BitVec.getElem_extractLsb', Nat.zero_add, carWord_getLsbD, if_pos hi, BitVec.getLsbD_eq_getElem]

theorem carWord_brake : (carWord s c).getLsbD 6 = (s.cars[c].profile.enabled && publishedStep s c == 0) :=
  carWord_getLsbD s c 6

theorem carWord_intent : (carWord s c).getLsbD 7 = (s.cars[c].profile.enabled && s.cars[c].intent.isSome) :=
  carWord_getLsbD s c 7

theorem carWord_caution : (carWord s c).getLsbD 8 = (s.cars[c].profile.enabled && s.race == .caution) :=
  carWord_getLsbD s c 8

theorem carWord_enabled : (carWord s c).getLsbD 9 = s.cars[c].profile.enabled :=
  (carWord_getLsbD s c 9).trans (Bool.and_true _)

theorem carWord_unused : (carWord s c).extractLsb' 10 6 = 0 := by
  ext i hi
  rw [BitVec.getElem_extractLsb', carWord_getLsbD, if_neg (by omega), if_neg (by omega), if_neg (by omega),
    if_neg (by omega), if_neg (by omega)]
  simp

end Words

theorem publishFrame_car (s : State) (c : CarNo) :
    (publishFrame s).cars[c] = s.cars[c].takeStep (publishedStep s c) := by
  show (updateAll s.cars fun c r => r.takeStep (publishedStep s c))[c] = _
  rw [updateAll_get]

end CycleEnds

/-- Settles O55: before its time a cycle end does nothing; at it the frame is published, each car's word has R155's
fields, and CAR takes each published step. -/
theorem cycleEndPublishes : Obligations.CycleEndPublishes := by
  intro s running
  refine ⟨fun early => ?_, fun reached => ⟨publishFrame s, ?_, Vector.ofFn (carWord s), ?_, rfl, ?_⟩⟩
  · rw [exec_cycleEnd running, early]
    rfl
  · rw [exec_cycleEnd running, reached]
    rfl
  · rw [← FrameBuilder.countMiss_eq]
    rfl
  · intro ranges c r held step
    have published : publishedStep s c = step := publishedStep_eq s c
    have word : (Vector.ofFn (carWord s))[c] = carWord s c := by simp
    have small : publishedStep s c ≤ 63 := ranges.publishedStep_le c
    rw [word, publishFrame_car, ← published, carWord_step, BitVec.toNat_ofNat]
    exact ⟨small, Nat.mod_eq_of_lt (by omega), carWord_brake s c, carWord_intent s c, carWord_caution s c,
      carWord_enabled s c, carWord_unused s c, rfl⟩

end Sys2Proof.Machine
end

section
/-!
O56. FETCH FRAME's reply in bytes, SET CYCLE TRIM's and SET LIMITS's tests in order, and what each stores.
-/

namespace Sys2Proof.Machine

/-- A car word's two bytes are its halves, the low one first (R181). -/
theorem bytes2_toNat (w : BitVec 16) : bytes2 w.toNat = [w.extractLsb' 0 8, w.extractLsb' 8 8] := by
  have low : byte w.toNat = w.extractLsb' 0 8 := BitVec.eq_of_toNat_eq (by simp [byte])
  have high : byte (w.toNat / 256) = w.extractLsb' 8 8 :=
    BitVec.eq_of_toNat_eq (by simp [byte, Nat.shiftRight_eq_div_pow])
  rw [bytes2, low, high]

theorem frameReply_eq (f : FrameBuilder) (x : CarFrame) : frameReply f x =
    [x.seq, byte x.race.code, if f.fetched then 0x00 else 0x01, byte f.missed, byte (f.missed / 256)] ++
      x.words.toList.flatMap fun w => [w.extractLsb' 0 8, w.extractLsb' 8 8] := by
  simp only [frameReply, bytes2_toNat]
  rfl

section Requests

variable {s t : State} {st : Status}

/-! ### FETCH FRAME (R158) -/

theorem fetchFrame_unpublished (none : s.frames.published = none) : fetchFrame s = (s, Reply.bare .state) := by
  unfold fetchFrame
  rw [none]
  rfl

theorem fetchFrame_published {x : CarFrame} (published : s.frames.published = some x) : fetchFrame s =
    ({ s with frames := { s.frames with fetched := true, framePending := false } },
      { status := .ok, body := frameReply s.frames x }) := by
  unfold fetchFrame
  rw [published]
  rfl

theorem exec_fetchFrame {r : Reply} (frame : FrameEnded .base 0x70 [] s) (answer : fetchFrame s = (t, r)) :
    exec (.fetchFrame .base) s = .next (withReply .base r.status.code r.body t) :=
  exec_owner (x := .fetchFrame) frame rfl rfl rfl rfl answer

/-! ### SET CYCLE TRIM (R152) -/

section Trim

variable {trim : Byte}

theorem setCycleTrim_busy (busy : s.store ≠ .idle) : setCycleTrim [trim] s = (s, Reply.bare .busy) :=
  if_pos (storeBusy_eq_true.mpr busy)

theorem setCycleTrim_ready (idle : s.store = .idle) : setCycleTrim [trim] s =
    if 63 < trim.toNat then (s, Reply.bare .range)
    else ({ s with frames := { s.frames with trim := trim.toNat } }, Reply.bare .ok) :=
  if_neg (by simp [storeBusy_eq_false.mpr idle])

theorem exec_setCycleTrim (frame : FrameEnded .console 0x71 [trim] s)
    (answer : setCycleTrim [trim] s = (t, Reply.bare st)) :
    exec (.setCycleTrim .console) s = .next (withReply .console st.code [] t) :=
  exec_owner (x := .setCycleTrim) frame rfl rfl rfl rfl answer

end Trim

/-! ### SET LIMITS (R188) -/

/-- Limits whose fields have room in their bytes. -/
structure Limits.Encodable (l : Limits) : Prop where
  guardTime : l.guardTime ≤ 65535
  intentHold : l.intentHold ≤ 255
  cautionStep : l.cautionStep ≤ 255
  paceStep : l.paceStep ≤ 255

section Limits

variable {l : Limits}

/-- SET LIMITS reads its record back from the body, and R188's tests decide it. -/
theorem setLimits_bytes (k : l.Encodable) (s : State) : setLimits l.bytes s =
    if s.race ≠ .setup ∧ l.guardTime ≠ s.limits.guardTime then (s, Reply.bare .state)
    else if s.storeBusy then (s, Reply.bare .busy)
    else if !l.inRange then (s, Reply.bare .range)
    else ({ s with limits := l }, Reply.bare .ok) := by
  simp only [setLimits, Limits.bytes, bytes2, List.cons_append, List.nil_append, number2_bytes k.guardTime,
    byte_toNat k.intentHold, byte_toNat k.cautionStep, byte_toNat k.paceStep, isYes_yesNo]
  rfl

theorem exec_setLimits (frame : FrameEnded .console 0x80 l.bytes s)
    (answer : setLimits l.bytes s = (t, Reply.bare st)) :
    exec (.setLimits .console) s = .next (withReply .console st.code [] t) :=
  exec_owner (x := .setLimits) frame rfl rfl (reservedYesNo_yesNo l.satEvents) rfl answer

end Limits

end Requests

/-- Settles O56: FETCH FRAME by whether a frame is published, and the two settings by their tests in order. -/
theorem fetchTrimAndLimits : Obligations.FetchTrimAndLimits := by
  intro s
  refine ⟨fun frame => ⟨fun none => ?_, fun x published => ?_⟩,
    fun trim frame => ⟨fun busy => ?_, fun idle => ⟨fun above => ?_, fun inside => ?_⟩⟩,
    fun l guardTime intentHold cautionStep paceStep frame => ?_⟩
  · exact exec_fetchFrame frame (fetchFrame_unpublished none)
  · rw [exec_fetchFrame frame (fetchFrame_published published), frameReply_eq]
    rfl
  · exact exec_setCycleTrim frame (setCycleTrim_busy busy)
  · exact exec_setCycleTrim (st := .range) frame ((setCycleTrim_ready idle).trans (if_pos above))
  · exact exec_setCycleTrim (st := .ok) frame ((setCycleTrim_ready idle).trans (if_neg (Nat.not_lt.mpr inside)))
  have decided := setLimits_bytes ⟨guardTime, intentHold, cautionStep, paceStep⟩ s
  refine ⟨fun race changed => ?_, fun allowed => ?_⟩
  · rw [if_pos ⟨race, changed⟩] at decided
    exact exec_setLimits frame decided
  rw [if_neg (by tauto)] at decided
  refine ⟨fun busy => ?_, fun idle => ?_⟩
  · rw [if_pos (storeBusy_eq_true.mpr busy)] at decided
    exact exec_setLimits frame decided
  rw [storeBusy_eq_false.mpr idle, if_neg Bool.false_ne_true] at decided
  refine ⟨fun outside => ?_, fun guard hold caution pace => ?_⟩
  · have refused : l.inRange = false := by
      rw [Bool.eq_false_iff, ne_eq, l.inRange_iff]
      omega
    rw [refused] at decided
    exact exec_setLimits (st := .range) frame decided
  · have accepted : l.inRange = true :=
      l.inRange_iff.mpr ⟨guard, Nat.one_le_iff_ne_zero.mpr hold, intentHold, caution, pace⟩
    rw [accepted] at decided
    exact exec_setLimits (st := .ok) frame decided

end Sys2Proof.Machine
end

section
/-!
O21, O22. The race state and the rail hold: SET RACE STATE, RAIL FAULT, RAIL CLEAR and a power-on reset are all that
moves either, and where one of them enters RUN or CAUTION, or takes the hold up, the other is as R162 asks.
-/

namespace Sys2Proof.Machine

/-! ### What leaves the race alone -/

/-- The race state and the rail hold of the whole state. -/
def State.standing (s : State) : RaceState × Bool := (s.race, s.railHold)

/-- The state `t` has the race state and the rail hold of `s`. -/
def SameStanding (s t : State) : Prop := t.standing = s.standing

section Outside

variable {s t : State}

theorem SameStanding.race (h : SameStanding s t) : t.race = s.race := congrArg Prod.fst h

theorem SameStanding.railHold (h : SameStanding s t) : t.railHold = s.railHold := congrArg Prod.snd h

theorem SwitchFootprint.standing (e : SwitchFootprint s t) : t.standing = s.standing := by rw [e]; rfl

theorem TrackFootprint.standing (e : TrackFootprint s t) : t.standing = s.standing := by rw [e]; rfl

theorem UseFootprint.standing (e : UseFootprint s t) : t.standing = s.standing := by rw [e]; rfl

theorem HandsetFootprint.standing (e : HandsetFootprint s t) : t.standing = s.standing := by rw [e]; rfl

theorem PairingFootprint.standing (e : PairingFootprint s t) : t.standing = s.standing := by rw [e]; rfl

theorem wakeLoop_standing (s : State) : (wakeLoop s).standing = s.standing := by
  rw [wakeLoop_footprint]
  rfl

theorem storeSwitch_standing (j : SwitchNo) (r : Switch) (s : State) :
    (storeSwitch j r s).standing = s.standing :=
  (wakeLoop_standing _).trans (followSwitchUse_useFootprint _ _ j _).standing

theorem storeGate_standing (g : Fin 16) (r : Gate) (s : State) : (storeGate g r s).standing = s.standing := by
  refine (wakeLoop_standing _).trans ?_
  rw [followGateUse_footprint]
  rfl

theorem storeProfile_standing (c : CarNo) (p : Profile) (s : State) :
    (storeProfile c p s).standing = s.standing := by
  unfold storeProfile dissolveDisabled
  dsimp only
  split
  · split <;> rfl
  · rfl

theorem applyScan_standing (setCode intervalCode : Nat) (s : State) :
    (applyScan setCode intervalCode s).standing = s.standing := by
  rw [applyScan_footprint]
  rfl

theorem endExchange_standing (x : Exchange) {outcome : State → State} (e : TrackFootprint s (outcome s)) :
    (endExchange x outcome s).standing = s.standing := by
  unfold endExchange
  rw [arbitrate_footprint]
  split
  · rfl
  · rw [moveServed_footprint]
    exact e.standing

theorem completeLoad_standing (s : State) : (completeLoad s).standing = s.standing := by
  unfold completeLoad
  split
  · rfl
  · rw [applyLoad_eq]
    exact wakeLoop_standing _

end Outside

/-! ### Requests that leave the race alone -/

/-- The requests that may move the race state or the rail hold: SET RACE STATE with one of its six targets, RAIL
FAULT and RAIL CLEAR (R163, R169, R170). -/
def Request.movesRace (x : Request) : Bool :=
  match x with
  | .start | .caution | .clearCaution | .halt | .resume | .setup | .railFault | .railClear => true
  | _ => false

section Owners

variable {s : State}

theorem mapWrite_standing {inRange : Bool} {store : State → State} (stored : (store s).standing = s.standing) :
    (mapWrite inRange store s).1.standing = s.standing :=
  mapWrite_keeps (P := SameStanding s) rfl fun _ _ => stored

theorem switchRequest_standing {act : SwitchNo → State → State × Reply}
    (acted : ∀ j, SwitchFootprint s (act j s).1) (body : List Byte) :
    (switchRequest act body s).1.standing = s.standing :=
  switchRequest_keeps (P := SameStanding s) rfl fun j => (acted j).standing

variable (body : List Byte) (s)

theorem owner_standing (p : Port) {x : Request} (elsewhere : x.movesRace = false) :
    (ownerOf p x body s).1.standing = s.standing := by
  cases x with
  | start | caution | clearCaution | halt | resume | setup | railFault | railClear =>
    exact absurd elsewhere.symm Bool.false_ne_true
  | identify | status | readEvents | clearQueue | badTarget | readPairing => rfl
  | setEventMask => dsimp only [ownerOf]; unfold setMask; split <;> rfl
  | clearFlags => dsimp only [ownerOf]; unfold clearFlags; split <;> rfl
  | writeSegment =>
    dsimp only [ownerOf]
    unfold writeSegment
    split
    · dsimp only
      split <;> exact mapWrite_standing rfl
    · rfl
  | writeSwitch =>
    dsimp only [ownerOf]
    unfold writeSwitch
    split
    · dsimp only
      split
      · exact mapWrite_standing (storeSwitch_standing _ _ s)
      · exact mapWrite_standing rfl
    · rfl
  | writeGate =>
    dsimp only [ownerOf]
    unfold writeGate
    split
    · dsimp only
      split
      · exact mapWrite_standing (storeGate_standing _ _ s)
      · exact mapWrite_standing rfl
    · rfl
  | setPairingGate =>
    dsimp only [ownerOf]
    unfold setPairingGate
    split
    · exact mapWrite_standing rfl
    · rfl
  | validateMap => dsimp only [ownerOf]; unfold validateMap; split <;> rfl
  | readSegment => exact congrArg State.standing (readSegment_state body s)
  | readSwitch => exact congrArg State.standing (readSwitch_state body s)
  | readGate => exact congrArg State.standing (readGate_state body s)
  | readCar => exact congrArg State.standing (readCar_state body s)
  | readHandset => exact congrArg State.standing (readHandset_state body s)
  | readNode => exact congrArg State.standing (readNode_state body s)
  | readRaw =>
    dsimp only [ownerOf]
    unfold readRaw
    split
    · split <;> rfl
    · rfl
  | writeProfile => exact writeProfile_keeps (P := SameStanding s) body rfl fun c p => storeProfile_standing c p s
  | writeCalibration => exact writeCalibration_keeps (P := SameStanding s) body rfl fun _ _ => rfl
  | setScan => exact setScan_keeps (P := SameStanding s) body rfl fun a b => applyScan_standing a b s
  | postSamples => exact (takeSamples_handsetFootprint body.tail s).standing
  | bind => exact bindRequest_keeps (P := SameStanding s) body rfl fun _ _ => rfl
  | unbind => exact unbindRequest_keeps (P := SameStanding s) body rfl (fun _ _ => rfl) fun _ => rfl
  | lockSwitch => exact switchRequest_standing (fun j => lockSwitch_switchFootprint j s) body
  | unlockSwitch => exact switchRequest_standing (fun j => unlockSwitch_switchFootprint j s) body
  | clearSwitch => exact switchRequest_standing (fun j => clearSwitch_switchFootprint j s) body
  | fetchFrame => dsimp only [ownerOf]; unfold fetchFrame; split <;> rfl
  | setCycleTrim =>
    dsimp only [ownerOf]
    unfold setCycleTrim
    split
    · split
      · rfl
      · split <;> rfl
    · rfl
  | setLimits => exact setLimits_keeps (P := SameStanding s) body rfl fun _ => rfl
  | saveImage | loadImage => exact storeRequest_keeps (P := SameStanding s) rfl rfl
  | restart => dsimp only [ownerOf]; unfold acceptRestart; split <;> rfl

end Owners

/-! ### Commands that leave the race alone -/

/-- A command leaves the race state and the rail hold, unless it is a request of the race, a power-on reset, a rise
of chip select or the byte after 16 fillers (R162). -/
theorem exec_standing {i : Instr} {s t : State} (e : exec i s = .next t)
    (noRequest : ∀ x p, i = Request.instr x p → x.movesRace = false) (noReset : ∀ x, i ≠ .powerOnReset x)
    (noRise : ∀ p, i ≠ .chipSelectRise p) (early : ∀ p b, i = .masterSendsByte p b → (s.ports.get p).filler < 16) :
    SameStanding s t := by
  have keep {f : State → State} (e : whenRunning s f = .next t) (k : (f s).standing = s.standing) :
      SameStanding s t := whenRunning_keeps (P := SameStanding s) e rfl fun _ => k
  have reply (p : Port) (status : Byte) (body : List Byte) (u : State) (k : SameStanding s u) :
      SameStanding s (withReply p status body u) := k
  cases i using instr_rowCases with
  | request x p =>
    rw [exec_request] at e
    exact serve_keeps e rfl (reply p) fun body => owner_standing s body p (noRequest x p rfl)
  | chipSelectFall p =>
    dsimp only [exec, execChipSelectFall] at e
    exact keep e rfl
  | chipSelectRise p => exact absurd rfl (noRise p)
  | unknownRequest p => exact serveUnknown_keeps e rfl (reply p)
  | masterSendsByte p b =>
    refine keep e ?_
    rw [clockPort_early p b s (early p b rfl)]
    rfl
  | resetPinAssert =>
    obtain rfl := Host.Outcome.next.inj e
    rfl
  | powerOnReset x => exact absurd rfl (noReset x)
  | intervalTimerExpiry =>
    dsimp only [exec, execIntervalTimerExpiry] at e
    refine keep e ?_
    split <;> rfl
  | roundResult ch raw pressed =>
    dsimp only [exec, execRoundResult] at e
    refine keep e ?_
    split
    · rfl
    · split
      · exact (takeWiredResult_handsetFootprint _ _ _ _).standing
      · rfl
  | holdEnd n =>
    dsimp only [exec, execHoldEnd] at e
    refine keep e ?_
    split <;> rfl
  | lostTime n =>
    dsimp only [exec, execLostTime] at e
    refine keep e ?_
    split <;> rfl
  | holdTimerExpiry n =>
    dsimp only [exec, execHoldTimerExpiry] at e
    refine keep e ?_
    split
    · exact (seekRequest_pairingFootprint n _).standing
    · rfl
  | seekTimerExpiry n =>
    dsimp only [exec, execSeekTimerExpiry] at e
    refine keep e ?_
    split
    · rfl
    · split <;> rfl
  | intentExpiry c =>
    dsimp only [exec, execIntentExpiry] at e
    refine keep e ?_
    split <;> rfl
  | ageExpiry c =>
    dsimp only [exec, execAgeExpiry] at e
    refine keep e ?_
    split <;> rfl
  | staleExpiry j c =>
    dsimp only [exec, execStaleExpiry] at e
    refine keep e ?_
    split
    · rfl
    · exact (returnIfEmpty_switchFootprint j _).standing
  | deadlineExpiry j =>
    dsimp only [exec, execDeadlineExpiry] at e
    refine keep e ?_
    split
    · exact (enterFault_switchFootprint j _ s).standing
    · rfl
  | cycleEnd =>
    dsimp only [exec, execCycleEnd] at e
    refine keep e ?_
    split <;> rfl
  | pollSent =>
    dsimp only [exec, execPollSent] at e
    refine keep e ?_
    split
    · rfl
    · split <;> rfl
  | replyReceived r =>
    dsimp only [exec, execReplyReceived] at e
    refine keep e ?_
    split
    · rfl
    · split
      · refine endExchange_standing _ ?_
        split
        · exact takeMiss_trackFootprint _ s
        · exact takeReply_trackFootprint _ r s
      · rfl
  | replyTimeout =>
    dsimp only [exec, execReplyTimeout] at e
    refine keep e ?_
    split
    · rfl
    · split
      · exact endExchange_standing _ (takeMiss_trackFootprint _ s)
      · rfl
  | saveWriteConfirm =>
    dsimp only [exec, execSaveWriteConfirm] at e
    refine keep e ?_
    split
    · rw [confirmWrite_footprint]
      rfl
    all_goals rfl
  | saveWriteTimeout =>
    dsimp only [exec, execSaveWriteTimeout] at e
    refine keep e ?_
    split
    · split <;> rfl
    all_goals rfl
  | loadComplete =>
    dsimp only [exec, execLoadComplete] at e
    refine keep e ?_
    split
    · exact completeLoad_standing s
    all_goals rfl

/-! ### Requests of the race -/

theorem clearRail_race (s : State) : (clearRail s).1.race = s.race := by
  unfold clearRail
  split <;> rfl

/-- Settles O22: a request of the race other than RAIL CLEAR is left out, RAIL CLEAR leaves the race state, and every
other command leaves both. -/
theorem raceChangesOnlyByItsRequests : Obligations.RaceChangesOnlyByItsRequests := by
  intro i s t e noReset early others
  by_cases clear : ∃ p, i = .railClear p
  · obtain ⟨p, rfl⟩ := clear
    refine ⟨serve_keeps (P := fun u => u.race = s.race) e rfl (fun _ _ _ k => k) fun _ => clearRail_race s,
      fun noClear => absurd rfl (noClear p)⟩
  · have noRequest (x : Request) (p : Port) (same : i = x.instr p) : x.movesRace = false := by
      subst same
      cases x with
      | start | caution | clearCaution | halt | resume | setup | railFault =>
        exact absurd (by simp [Request.instr]) (others p)
      | railClear => exact absurd ⟨p, rfl⟩ clear
      | _ => rfl
    have same := exec_standing e noRequest noReset (fun p rise => others p (by simp [rise])) early
    exact ⟨same.race, fun _ => same.railHold⟩

/-! ### The rail law (R162) -/

section Law

variable {s t : State}

theorem RailLaw.standing (h : RailLaw s) (same : SameStanding s t) : RailLaw t := by
  unfold RailLaw
  rw [same.race, same.railHold]
  exact h

/-- A race that is neither RUN nor CAUTION meets the law, whatever the hold. -/
theorem railLaw_of_still (still : s.race = .setup ∨ s.race = .halt) : RailLaw s := by
  rintro (race | race) <;> simp [race] at still

/-- With the hold clear the law holds in any race state. -/
theorem railLaw_of_clear (clear : s.railHold = false) : RailLaw s := fun _ => clear

theorem railLaw_haltRace (cause : RaceCause) (s : State) : RailLaw (haltRace cause s) :=
  railLaw_of_still (.inr (haltRace_switchFootprint cause s).race_eq)

/-- START and RESUME enter RUN only with the hold clear (R164). -/
theorem RailLaw.enterRun (h : RailLaw s) {enter : State → State}
    (holds : ∀ u, (enter u).railHold = u.railHold) : RailLaw (enterRun enter s).1 := by
  obtain ⟨-, e⟩ | ⟨-, -, e⟩ | ⟨-, -, -, e⟩ | ⟨-, -, clear, e⟩ := enterRun_cases enter s <;> rw [e]
  · exact h
  · exact h.standing rfl
  · exact h.standing rfl
  · exact railLaw_of_clear ((holds _).trans clear)

/-- A rail fault in a running race halts it (R169). -/
theorem railLaw_takeRailFault (s : State) : RailLaw (takeRailFault s) := by
  by_cases running : s.race = .run ∨ s.race = .caution
  · rw [takeRailFault_running running]
    exact railLaw_haltRace .rail _
  · have still : s.race = .setup ∨ s.race = .halt := by
      cases race : s.race <;> simp_all
    rw [takeRailFault_still still]
    exact railLaw_of_still still

/-- Every request's owner keeps the law: the race goes between RUN and CAUTION without touching the hold. -/
theorem RailLaw.owner (h : RailLaw s) (p : Port) (x : Request) (body : List Byte) :
    RailLaw (ownerOf p x body s).1 := by
  cases x with
  | start =>
    dsimp only [ownerOf]
    unfold startRace
    split
    · exact h.enterRun fun _ => rfl
    all_goals exact h
  | caution =>
    dsimp only [ownerOf]
    unfold cautionRace
    split
    · next run => exact railLaw_of_clear (h (.inl run))
    all_goals exact h
  | clearCaution =>
    dsimp only [ownerOf]
    unfold clearCautionRace
    split
    · next caution => exact railLaw_of_clear (h (.inr caution))
    all_goals exact h
  | halt =>
    dsimp only [ownerOf]
    unfold haltRequest
    split
    · exact h
    all_goals
      rw [accept_state]
      exact railLaw_haltRace .halt s
  | resume =>
    dsimp only [ownerOf]
    unfold resumeRace
    split
    · exact h.enterRun fun _ => rfl
    all_goals exact h
  | setup =>
    dsimp only [ownerOf]
    unfold setupRace
    split
    · exact railLaw_of_still (.inl rfl)
    all_goals exact h
  | railFault => exact railLaw_takeRailFault s
  | railClear =>
    dsimp only [ownerOf]
    unfold clearRail
    split
    · exact railLaw_of_clear rfl
    · exact h
  | _ => exact h.standing (owner_standing s body p rfl)

/-- Every command keeps the law: a request by its owner, a rise of chip select or a byte by the frame that it may
take, and a reset by entering SETUP. -/
theorem RailLaw.command (i : Instr) (s t : State) (h : RailLaw s) (e : exec i s = .next t) : RailLaw t := by
  have owner (p : Port) (x : Request) (body : List Byte) : RailLaw (ownerOf p x body s).1 := h.owner p x body
  have reset (x : Straps) (u : State) : RailLaw (powerOn x u) := railLaw_of_clear rfl
  have port (p : Port) (f : PortState → PortState) (u : State) (k : RailLaw u) : RailLaw (u.modifyPort p f) :=
    k.standing rfl
  by_cases request : ∃ x p, i = Request.instr x p
  · obtain ⟨x, p, rfl⟩ := request
    rw [exec_request] at e
    exact serve_keeps e h (fun _ _ u => port p _ u) fun body => owner p x body
  by_cases powerOn : ∃ x, i = .powerOnReset x
  · obtain ⟨x, rfl⟩ := powerOn
    obtain rfl := Host.Outcome.next.inj e
    exact reset x s
  by_cases rise : ∃ p, i = .chipSelectRise p
  · obtain ⟨p, rfl⟩ := rise
    exact whenRunning_keeps e h fun _ => raiseSelect_keeps h (port p) (owner p) reset
  by_cases byte : ∃ p b, i = .masterSendsByte p b
  · obtain ⟨p, b, rfl⟩ := byte
    exact whenRunning_keeps e h fun _ => clockPort_keeps h (port p) (owner p)
  exact h.standing (exec_standing e (fun x p same => absurd ⟨x, p, same⟩ request)
    (fun x same => powerOn ⟨x, same⟩) (fun p same => rise ⟨p, same⟩) fun p b same => absurd ⟨p, b, same⟩ byte)

end Law

/-- Settles O21: every command keeps the law, and so do the queue, the choices and the passing of time. -/
theorem railLawKept : Obligations.RailLawKept :=
  keptByEveryStep_of_exec RailLaw.command (fun _ _ h => h.standing rfl) (fun _ _ h => h.standing rfl)
    fun _ h => h.standing rfl

end Sys2Proof.Machine
end

section
/-!
O15 to O17 and O19. SET RACE STATE target by target: the tests of START and RESUME, the warm restart, CAUTION and
back, and the targets that R163's table does not carry out.
-/

namespace Sys2Proof.Machine

section Targets

variable {s t : State}

/-! ### The row of a target -/

/-- The six rows with a target byte share SET RACE STATE's code, and take that byte as their whole body from the
console (R163, R185). -/
theorem Request.row_of_target {x : Request} {target : Byte} (targeted : x.target = some target) :
    x.code = 0x10 ∧ x.lengthFits [target] = true ∧ x.reservedSet [target] = false ∧ x.allows .console = true := by
  cases x with
  | start | caution | clearCaution | halt | resume | setup => exact ⟨rfl, rfl, rfl, rfl⟩
  | _ => cases targeted

/-- A SET RACE STATE row whose frame has ended is answered as its owner answers it. -/
theorem exec_target {x : Request} {target : Byte} {r : Reply} (frame : FrameEnded .console 0x10 [target] s)
    (targeted : x.target = some target) (answer : ownerOf .console x [target] s = (t, r)) :
    exec (x.instr .console) s = .next (withReply .console r.status.code r.body t) := by
  obtain ⟨code, fits, clear, allowed⟩ := x.row_of_target targeted
  rw [← code] at frame
  exact exec_owner frame (by simp [Request.owns, targeted]) fits clear allowed answer

/-! ### The tests of START and RESUME (R164, R167) -/

variable {enter : State → State}

theorem enterRun_busy (busy : s.store ≠ .idle) : enterRun enter s = (s, Reply.bare .busy) :=
  if_pos (storeBusy_eq_true.mpr busy)

section Ready

variable (idle : s.store = .idle)

include idle

theorem enterRun_invalid (fault : s.map.validate ≠ none) :
    enterRun enter s = ({ s with mapValid := false }, { status := .state, body := [0x01] }) := by
  obtain ⟨busy, -⟩ | ⟨-, -, e⟩ | ⟨-, valid, -⟩ | ⟨-, valid, -⟩ := enterRun_cases enter s
  · exact absurd idle (storeBusy_eq_true.mp busy)
  · exact e
  all_goals exact absurd valid fault

variable (valid : s.map.validate = none)

include valid

theorem enterRun_held (held : s.railHold = true) :
    enterRun enter s = ({ s with mapValid := true }, { status := .state, body := [0x02] }) := by
  obtain ⟨busy, -⟩ | ⟨-, fault, -⟩ | ⟨-, -, -, e⟩ | ⟨-, -, clear, -⟩ := enterRun_cases enter s
  · exact absurd idle (storeBusy_eq_true.mp busy)
  · exact absurd valid fault
  · exact e
  · exact absurd (clear.symm.trans held) Bool.false_ne_true

theorem enterRun_entered (clear : s.railHold = false) :
    enterRun enter s = (enter { s with mapValid := true }, Reply.bare .ok) := by
  obtain ⟨busy, -⟩ | ⟨-, fault, -⟩ | ⟨-, -, held, -⟩ | ⟨-, -, -, e⟩ := enterRun_cases enter s
  · exact absurd idle (storeBusy_eq_true.mp busy)
  · exact absurd valid fault
  · exact absurd (clear.symm.trans held) Bool.false_ne_true
  · exact e

end Ready

theorem startRace_setup (setup : s.race = .setup) : startRace s = enterRun (changeRace .run .start) s := by
  unfold startRace
  rw [setup]

theorem resumeRace_halt (halt : s.race = .halt) :
    resumeRace s = enterRun (fun s => changeRace .run .resume (warmRestart s)) s := by
  unfold resumeRace
  rw [halt]

/-- The race enters RUN after a warm restart: R41's cars, the lists emptied without an event (R167). -/
theorem changeRace_warmRestart (s : State) : changeRace .run .resume (warmRestart s) =
    raise (.raceState s.race .run .resume) { s with
      race := .run
      lists := Vector.ofFn fun _ => []
      cars := Vector.ofFn fun c : CarNo => { s.cars[c] with
        intent := none, speed := 0, stale := s.cars[c].fix.isSome || s.cars[c].stale } } := by
  have cars : (warmRestart s).cars = Vector.ofFn fun c : CarNo => { s.cars[c] with
      intent := none, speed := 0, stale := s.cars[c].fix.isSome || s.cars[c].stale } := by
    refine congrArg Vector.ofFn (funext fun c => ?_)
    dsimp only [Car.warmRestart]
    cases s.cars[c].fix <;> rfl
  rw [← cars]
  rfl

/-! ### Targets not carried out (R163) -/

theorem startRace_elsewhere (race : s.race ≠ .setup) : startRace s = (s, Reply.bare .noChange) := by
  unfold startRace
  split
  · next setup => exact absurd setup race
  all_goals rfl

theorem cautionRace_elsewhere (race : s.race ≠ .run) : cautionRace s = (s, Reply.bare .noChange) := by
  unfold cautionRace
  split
  · next run => exact absurd run race
  all_goals rfl

theorem clearCautionRace_elsewhere (race : s.race ≠ .caution) : clearCautionRace s = (s, Reply.bare .noChange) := by
  unfold clearCautionRace
  split
  · next caution => exact absurd caution race
  all_goals rfl

theorem haltRequest_halted (halt : s.race = .halt) : haltRequest s = (s, Reply.bare .noChange) := by
  unfold haltRequest
  rw [halt]
  rfl

theorem resumeRace_elsewhere (race : s.race ≠ .halt) : resumeRace s = (s, Reply.bare .noChange) := by
  unfold resumeRace
  split
  · next halt => exact absurd halt race
  all_goals rfl

theorem setupRace_elsewhere (race : s.race ≠ .halt) : setupRace s = (s, Reply.bare .noChange) := by
  unfold setupRace
  split
  · next halt => exact absurd halt race
  all_goals rfl

/-! ### Targets carried out without a test (R165, R168) -/

theorem cautionRace_run (run : s.race = .run) : cautionRace s =
    (raise (.raceState .run .caution .caution) { s with
      race := .caution, cars := Vector.ofFn fun c : CarNo => { s.cars[c] with intent := none } },
    Reply.bare .ok) := by
  unfold cautionRace changeRace
  rw [run]
  rfl

theorem clearCautionRace_caution (caution : s.race = .caution) : clearCautionRace s =
    (raise (.raceState .caution .run .clearCaution) { s with race := .run }, Reply.bare .ok) := by
  unfold clearCautionRace changeRace
  rw [caution]
  rfl

theorem setupRace_halt (halt : s.race = .halt) : setupRace s =
    (raise (.raceState .halt .setup .setup) { s with race := .setup }, Reply.bare .ok) := by
  unfold setupRace changeRace
  rw [halt]
  rfl

end Targets

/-! ### The statements -/

/-- Settles O15: START's owner in SETUP is R164's tests, taken in turn. -/
theorem startTested : Obligations.StartTested := by
  intro s frame setup
  have answered {t : State} {r : Reply} (tests : enterRun (changeRace .run .start) s = (t, r)) :
      exec (.start .console) s = .next (withReply .console r.status.code r.body t) :=
    exec_target (x := .start) frame rfl ((startRace_setup setup).trans tests)
  refine ⟨fun busy => answered (enterRun_busy busy), fun idle => ⟨fun fault => answered (enterRun_invalid idle fault),
    fun valid => ⟨fun held => answered (enterRun_held idle valid held), fun clear => ?_⟩⟩⟩
  rw [answered (enterRun_entered idle valid clear), ← setup]
  rfl

/-- Settles O16: RESUME's owner in HALT is R164's tests, taken in turn, and then the warm restart. -/
theorem resumeTested : Obligations.ResumeTested := by
  intro s frame halt
  have answered {t : State} {r : Reply}
      (tests : enterRun (fun s => changeRace .run .resume (warmRestart s)) s = (t, r)) :
      exec (.resume .console) s = .next (withReply .console r.status.code r.body t) :=
    exec_target (x := .resume) frame rfl ((resumeRace_halt halt).trans tests)
  refine ⟨fun busy => answered (enterRun_busy busy), fun idle => ⟨fun fault => answered (enterRun_invalid idle fault),
    fun valid => ⟨fun held => answered (enterRun_held idle valid held), fun clear => ?_⟩⟩⟩
  rw [answered (enterRun_entered idle valid clear), changeRace_warmRestart, ← halt]
  rfl

/-- Settles O17: each of the two targets from the one state in which it is carried out. -/
theorem cautionAndBack : Obligations.CautionAndBack := fun _ =>
  ⟨fun frame run => exec_target (x := .caution) frame rfl (cautionRace_run run),
    fun frame caution => exec_target (x := .clearCaution) frame rfl (clearCautionRace_caution caution)⟩

/-- Settles O19: SETUP from HALT, each target from the states that do not carry it out, and the row of the targets
above 5. -/
theorem otherRaceTargets : Obligations.OtherRaceTargets := fun _ =>
  ⟨fun frame halt => exec_target (x := .setup) frame rfl (setupRace_halt halt),
    fun frame race => exec_target (x := .start) frame rfl (startRace_elsewhere race),
    fun frame race => exec_target (x := .caution) frame rfl (cautionRace_elsewhere race),
    fun frame race => exec_target (x := .clearCaution) frame rfl (clearCautionRace_elsewhere race),
    fun frame halt => exec_target (x := .halt) frame rfl (haltRequest_halted halt),
    fun frame race => exec_target (x := .resume) frame rfl (resumeRace_elsewhere race),
    fun frame race => exec_target (x := .setup) frame rfl (setupRace_elsewhere race),
    fun target above frame => exec_owner (x := .badTarget) frame
      (by simpa [Request.owns, Request.target, Request.code] using above) rfl rfl rfl rfl⟩

end Sys2Proof.Machine
end

section
/-!
O3. The reset pin held low: every command but the release is taken under the pin's guard.
-/

namespace Sys2Proof.Machine

/-- A command taken while the reset pin is held low has no effect (R173). -/
theorem whenRunning_held {s : State} (held : s.resetHeld = true) (f : State → State) :
    whenRunning s f = .next s := by
  simp [whenRunning, held]

/-- With the reset pin held low a command other than the release is the pin's assertion again, or stands under the
pin's guard. -/
theorem exec_held {i : Instr} {s : State} (held : s.resetHeld = true) (noReset : ∀ x, i ≠ .powerOnReset x) :
    exec i s = .next s := by
  cases i using instr_rowCases with
  | request x p =>
    rw [exec_request]
    exact whenRunning_held held _
  | powerOnReset x => exact absurd rfl (noReset x)
  | resetPinAssert =>
    show Host.Outcome.next { s with resetHeld := true } = .next s
    rw [← held]
  | _ =>
    simp only [exec, execChipSelectFall, execChipSelectRise, execUnknownRequest, serveUnknown, execMasterSendsByte,
      execIntervalTimerExpiry, execRoundResult, execHoldEnd, execLostTime, execHoldTimerExpiry, execSeekTimerExpiry,
      execIntentExpiry, execAgeExpiry, execStaleExpiry, execDeadlineExpiry, execCycleEnd, execPollSent,
      execReplyReceived, execReplyTimeout, execSaveWriteConfirm, execSaveWriteTimeout, execLoadComplete,
      whenRunning_held held]

/-- Settles O3: the assertion sets the pin, and from then on the pin's guard stops every command and the attention
lines are undriven before anything else is asked. -/
theorem resetPinHoldsThePart : Obligations.ResetPinHoldsThePart := fun _ =>
  ⟨rfl, fun held => ⟨fun _ noReset => exec_held held noReset, fun _ => if_pos held⟩⟩

end Sys2Proof.Machine
end

section
/-!
O57. The settings store: the image with its sum and its parts, SAVE IMAGE, LOAD IMAGE and RESTART, a save's writes
one confirmation at a time, and the checks of a load.
-/

namespace Sys2Proof.Machine

/-! ### The image, its sum and its parts (R198, R199) -/

/-- Sixteen-bit addition does not mind the order in which the bytes are summed. -/
theorem Image.additiveSum_eq (i : Image) :
    i.additiveSum = i.bytes.foldr (fun b x => b.setWidth 16 + x) 0 := by
  have left : i.additiveSum = (i.bytes.map fun b => b.setWidth 16).foldl (· + ·) 0 := List.foldl_map.symm
  rw [left, List.foldl_eq_foldr, List.foldr_map]

/-- With every part written the memory holds the image, but for the marker. -/
theorem Image.written_all (i m : Image) {n : Nat} (all : 13 ≤ n) : i.written n m = { i with marker := false } := by
  have part (k : Nat) (le : k ≤ 13) : k ≤ n := le.trans all
  simp [Image.written, part]

section Requests

variable {s : State}

/-! ### SAVE IMAGE, LOAD IMAGE and RESTART (R174, R199, R200) -/

variable {begin_ : State → State}

theorem storeRequest_racing (race : s.race ≠ .setup) : storeRequest begin_ s = (s, Reply.bare .state) :=
  if_pos race

theorem storeRequest_busy (setup : s.race = .setup) (busy : s.store ≠ .idle) :
    storeRequest begin_ s = (s, Reply.bare .busy) :=
  (if_neg (not_not_intro setup)).trans (if_pos (storeBusy_eq_true.mpr busy))

theorem storeRequest_begun (setup : s.race = .setup) (idle : s.store = .idle) :
    storeRequest begin_ s = (begin_ s, Reply.bare .ok) :=
  (if_neg (not_not_intro setup)).trans (if_neg (by simp [storeBusy_eq_false.mpr idle]))

theorem exec_saveImage {t : State} {r : Reply} (frame : FrameEnded .console 0x81 [] s)
    (tests : storeRequest beginSave s = (t, r)) :
    exec (.saveImage .console) s = .next (withReply .console r.status.code r.body t) :=
  exec_owner (x := .saveImage) frame rfl rfl rfl rfl tests

theorem exec_loadImage {t : State} {r : Reply} (frame : FrameEnded .console 0x82 [] s)
    (tests : storeRequest (fun s => { s with store := .loading }) s = (t, r)) :
    exec (.loadImage .console) s = .next (withReply .console r.status.code r.body t) :=
  exec_owner (x := .loadImage) frame rfl rfl rfl rfl tests

theorem acceptRestart_busy (busy : s.store ≠ .idle) : acceptRestart s = (s, Reply.bare .busy) :=
  if_pos (storeBusy_eq_true.mpr busy)

theorem acceptRestart_idle (idle : s.store = .idle) :
    acceptRestart s = ({ s with restartAccepted := true }, Reply.bare .ok) :=
  if_neg (by simp [storeBusy_eq_false.mpr idle])

/-- The console's rise of chip select carries out an accepted RESTART, no ended frame being there to be taken
first (R174). -/
theorem raiseSelect_restart (accepted : s.restartAccepted = true) (phase : (s.ports.get .console).phase ≠ .taking) :
    raiseSelect .console s = powerOn (Config.restartStraps s.picks) { s with picks := s.picks + 1 } := by
  have untaken : takeEndedFrame .console s = s := by
    simp [takeEndedFrame, endedFrame, phase]
  unfold raiseSelect
  rw [untaken]
  exact if_pos ⟨rfl, accepted⟩

/-! ### A save's writes (R199) -/

theorem exec_saveWriteTimeout (running : s.resetHeld = false) {p : SaveProgress} (saving : s.store = .saving p) :
    exec .saveWriteTimeout s = .next (if reached s.clock p.confirmBy then failSave s else s) := by
  show execSaveWriteTimeout s = _
  unfold execSaveWriteTimeout
  rw [whenRunning_running running, saving]

/-- A confirmation or a timeout with no save in flight does nothing. -/
theorem exec_saveWrite_idle (running : s.resetHeld = false) (noSave : ∀ p, s.store ≠ .saving p) :
    exec .saveWriteConfirm s = .next s ∧ exec .saveWriteTimeout s = .next s := by
  constructor
  · show execSaveWriteConfirm s = _
    unfold execSaveWriteConfirm
    rw [whenRunning_running running]
    split
    · next p saving => exact absurd saving (noSave p)
    all_goals rfl
  · show execSaveWriteTimeout s = _
    unfold execSaveWriteTimeout
    rw [whenRunning_running running]
    split
    · next p saving => exact absurd saving (noSave p)
    all_goals rfl

/-! ### A load's checks (R200) -/

/-- The first check that fails, given by what it and the checks before it find. -/
theorem loadFault_eq_some {i : Image} {race : RaceState} {reason : StoreReason}
    (fails : (reason = .marker ∧ i.marker = false) ∨
      (i.marker = true ∧
        ((reason = .sum ∧ i.sum ≠ i.additiveSum) ∨
        (i.sum = i.additiveSum ∧
          ((reason = .range ∧ i.inRange = false) ∨
          (i.inRange = true ∧
            ((reason = .binding ∧ i.bindingsSound = false) ∨
            (i.bindingsSound = true ∧ reason = .state ∧ race ≠ .setup)))))))) :
    loadFault i race = some reason := by
  unfold loadFault
  obtain ⟨rfl, marker⟩ | ⟨marker, ⟨rfl, sum⟩ | ⟨sum, ⟨rfl, range⟩ | ⟨range, ⟨rfl, sound⟩ |
    ⟨sound, rfl, setup⟩⟩⟩⟩ := fails
  · simp [marker]
  · simp [marker, sum]
  · simp [marker, ← sum, range]
  · simp [marker, ← sum, range, sound]
  · simp [marker, ← sum, range, sound, setup]

theorem exec_loadComplete_failed (running : s.resetHeld = false) (loading : s.store = .loading)
    {reason : StoreReason} (fails : loadFault s.memory s.race = some reason) :
    exec .loadComplete s = .next (raise (.storeFail .load reason) { s with store := .idle }) := by
  show execLoadComplete s = _
  unfold execLoadComplete
  rw [whenRunning_running running, loading]
  unfold completeLoad
  rw [fails]

theorem exec_loadComplete_idle (running : s.resetHeld = false) (idle : s.store ≠ .loading) :
    exec .loadComplete s = .next s := by
  show execLoadComplete s = _
  unfold execLoadComplete
  rw [whenRunning_running running]
  split
  · next loading => exact absurd loading idle
  all_goals rfl

end Requests

/-- Settles O57: the image by its parts, each request by its tests, each write of a save by its stage, and a load by
its first failed check. -/
theorem settingsAndStore : Obligations.SettingsAndStore := by
  intro s limit generation image wait
  refine ⟨rfl, fun i => i.additiveSum_eq,
    fun i m n => ⟨rfl, i.written_all m, rfl, rfl, rfl, rfl, rfl, rfl, rfl, rfl, rfl, rfl, rfl, rfl⟩,
    ?requests, ?begun, ?restart, fun running => ⟨?rise, ?cleared, ?contents, ?written, ?marked, ?timeout,
      exec_saveWrite_idle running, exec_loadComplete_idle running,
      fun loading reason fails => exec_loadComplete_failed running loading (loadFault_eq_some fails)⟩⟩
  case requests =>
    intro x row frame
    obtain rfl | rfl : x = .saveImage ∨ x = .loadImage := by simpa using row
    · exact ⟨fun race => exec_saveImage frame (storeRequest_racing race),
        fun setup busy => exec_saveImage frame (storeRequest_busy setup busy)⟩
    · exact ⟨fun race => exec_loadImage frame (storeRequest_racing race),
        fun setup busy => exec_loadImage frame (storeRequest_busy setup busy)⟩
  case begun =>
    intro setup idle
    exact ⟨fun frame => exec_saveImage frame (storeRequest_begun setup idle),
      fun frame => exec_loadImage frame (storeRequest_begun setup idle)⟩
  case restart =>
    intro frame
    exact ⟨fun busy => exec_owner (x := .restart) frame rfl rfl rfl rfl (acceptRestart_busy busy),
      fun idle => exec_owner (x := .restart) frame rfl rfl rfl rfl (acceptRestart_idle idle)⟩
  case rise =>
    intro accepted phase
    exact (whenRunning_running running _).trans (congrArg _ (raiseSelect_restart accepted phase))
  case cleared | contents | written | marked =>
    intros
    exact exec_saveWriteConfirm running ‹_›
  case timeout =>
    intro p saving
    rw [exec_saveWriteTimeout running saving]
    exact ⟨fun waiting => congrArg _ (if_neg (by simp [waiting])), fun come => congrArg _ (if_pos come)⟩

end Sys2Proof.Machine
end

section
/-!
O5. The edges of chip select and the clocked bytes, phase by phase. An ended frame that an edge or a byte finds is
taken as its own command takes it, because no request's owner touches the reset pin and the answered port has left
TAKING.
-/

namespace Sys2Proof.Machine

/-! ### No request's owner touches the reset pin -/

section Owners

variable {s t : State}

theorem SwitchFootprint.resetHeld (e : SwitchFootprint s t) : t.resetHeld = s.resetHeld := by rw [e]

theorem UseFootprint.resetHeld (e : UseFootprint s t) : t.resetHeld = s.resetHeld := by rw [e]

theorem HandsetFootprint.resetHeld (e : HandsetFootprint s t) : t.resetHeld = s.resetHeld := by rw [e]

theorem takeRailFault_resetHeld (s : State) : (takeRailFault s).resetHeld = s.resetHeld := by
  unfold takeRailFault
  dsimp only
  split
  · exact (haltRace_switchFootprint .rail _).resetHeld
  · exact (haltRace_switchFootprint .rail _).resetHeld
  · rfl
  · rfl

theorem wakeLoop_resetHeld (s : State) : (wakeLoop s).resetHeld = s.resetHeld := by rw [wakeLoop_footprint]

theorem storeSwitch_resetHeld (j : SwitchNo) (r : Switch) (s : State) :
    (storeSwitch j r s).resetHeld = s.resetHeld :=
  (wakeLoop_resetHeld _).trans (followSwitchUse_useFootprint _ _ j _).resetHeld

theorem storeGate_resetHeld (g : Fin 16) (r : Gate) (s : State) : (storeGate g r s).resetHeld = s.resetHeld :=
  (wakeLoop_resetHeld _).trans (by rw [followGateUse_footprint]; rfl)

theorem storeProfile_resetHeld (c : CarNo) (p : Profile) (s : State) :
    (storeProfile c p s).resetHeld = s.resetHeld := by
  unfold storeProfile dissolveDisabled
  dsimp only
  split
  · split <;> rfl
  · rfl

/-- The reset pin of `t` stands as in `s`. -/
def SamePin (s t : State) : Prop := t.resetHeld = s.resetHeld

theorem switchRequest_samePin {act : SwitchNo → State → State × Reply} {body : List Byte}
    (acted : ∀ j, SwitchFootprint s (act j s).1) : SamePin s (switchRequest act body s).1 :=
  switchRequest_keeps (P := SamePin s) rfl fun j => (acted j).resetHeld

theorem mapWrite_samePin {inRange : Bool} {store : State → State} (stored : SamePin s (store s)) :
    SamePin s (mapWrite inRange store s).1 :=
  mapWrite_keeps (P := SamePin s) rfl fun _ _ => stored

/-- Only the pin's own edges move it: a request's owner leaves it (R173). -/
theorem owner_samePin (p : Port) (x : Request) (body : List Byte) (s : State) :
    SamePin s (ownerOf p x body s).1 := by
  cases x with
  | identify | status | readEvents | clearQueue | badTarget | readPairing => rfl
  | setEventMask | clearFlags | caution | clearCaution | setup | railClear | validateMap | fetchFrame | restart =>
    simp only [ownerOf, setMask, clearFlags, cautionRace, clearCautionRace, setupRace, clearRail, validateMap,
      fetchFrame, acceptRestart]
    split <;> rfl
  | readRaw | setCycleTrim =>
    simp only [ownerOf, readRaw, setCycleTrim]
    repeat' split
    all_goals rfl
  | start | resume =>
    simp only [ownerOf, startRace, resumeRace]
    split
    · exact enterRun_keeps (P := SamePin s) rfl (fun _ => rfl) rfl
    all_goals rfl
  | halt =>
    dsimp only [ownerOf]
    unfold haltRequest
    split
    · rfl
    all_goals exact (haltRace_switchFootprint .halt s).resetHeld
  | railFault => exact takeRailFault_resetHeld s
  | writeSegment =>
    dsimp only [ownerOf]
    unfold writeSegment
    split
    · dsimp only
      split <;> exact mapWrite_samePin rfl
    · rfl
  | writeSwitch =>
    dsimp only [ownerOf]
    unfold writeSwitch
    split
    · dsimp only
      split
      · exact mapWrite_samePin (storeSwitch_resetHeld _ _ s)
      · exact mapWrite_samePin rfl
    · rfl
  | writeGate =>
    dsimp only [ownerOf]
    unfold writeGate
    split
    · dsimp only
      split
      · exact mapWrite_samePin (storeGate_resetHeld _ _ s)
      · exact mapWrite_samePin rfl
    · rfl
  | setPairingGate =>
    dsimp only [ownerOf]
    unfold setPairingGate
    split
    · exact mapWrite_samePin rfl
    · rfl
  | readSegment => exact congrArg State.resetHeld (readSegment_state body s)
  | readSwitch => exact congrArg State.resetHeld (readSwitch_state body s)
  | readGate => exact congrArg State.resetHeld (readGate_state body s)
  | readCar => exact congrArg State.resetHeld (readCar_state body s)
  | readHandset => exact congrArg State.resetHeld (readHandset_state body s)
  | readNode => exact congrArg State.resetHeld (readNode_state body s)
  | writeProfile => exact writeProfile_keeps (P := SamePin s) body rfl fun c p => storeProfile_resetHeld c p s
  | writeCalibration => exact writeCalibration_keeps (P := SamePin s) body rfl fun _ _ => rfl
  | setScan =>
    refine setScan_keeps (P := SamePin s) body rfl fun a b => ?_
    rw [applyScan_footprint]
    rfl
  | postSamples => exact (takeSamples_handsetFootprint body.tail s).resetHeld
  | bind => exact bindRequest_keeps (P := SamePin s) body rfl fun _ _ => rfl
  | unbind => exact unbindRequest_keeps (P := SamePin s) body rfl (fun _ _ => rfl) fun _ => rfl
  | lockSwitch => exact switchRequest_samePin fun j => lockSwitch_switchFootprint j s
  | unlockSwitch => exact switchRequest_samePin fun j => unlockSwitch_switchFootprint j s
  | clearSwitch => exact switchRequest_samePin fun j => clearSwitch_switchFootprint j s
  | setLimits => exact setLimits_keeps (P := SamePin s) body rfl fun _ => rfl
  | saveImage | loadImage => exact storeRequest_keeps (P := SamePin s) rfl rfl

end Owners

/-! ### Changes of a port -/

section Ports

variable (s : State) (p : Port)

theorem PerPort.update_congr {α : Type} (x : PerPort α) {f g : α → α} (same : f (x.get p) = g (x.get p)) :
    x.update p f = x.update p g := by
  cases p <;> simp_all [PerPort.update, PerPort.get]

theorem PerPort.update_id {α : Type} (x : PerPort α) : x.update p id = x := by
  cases p <;> rfl

/-- Two changes that make the same of the port as it stands are the same. -/
theorem State.modifyPort_congr {f g : PortState → PortState} (same : f (s.ports.get p) = g (s.ports.get p)) :
    s.modifyPort p f = s.modifyPort p g := by
  unfold State.modifyPort
  rw [PerPort.update_congr p s.ports same]

/-- A change that leaves the port as it stands leaves the state. -/
theorem State.modifyPort_eq_self {f : PortState → PortState} (same : f (s.ports.get p) = s.ports.get p) :
    s.modifyPort p f = s := by
  rw [s.modifyPort_congr p (g := id) same]
  unfold State.modifyPort
  rw [PerPort.update_id]

/-- Two changes of one port are one. -/
theorem State.modifyPort_modifyPort (f g : PortState → PortState) :
    (s.modifyPort p f).modifyPort p g = s.modifyPort p fun x => g (f x) := by
  simp [State.modifyPort]

end Ports

/-! ### The port's own moves, by its phase (R177 to R179) -/

section Moves

variable {x : PortState} (b : Byte)

theorem deselectPort_uncounted
    (quiet : x.phase = .idle ∨ x.phase = .done ∨ (x.phase = .receiving ∧ x.request = none)) :
    deselectPort x = { x with phase := .idle, request := none, reply := none } := by
  obtain idle | done | ⟨receiving, nothing⟩ := quiet
  · simp [deselectPort, idle]
  · simp [deselectPort, done]
  · simp [deselectPort, receiving, nothing]

theorem deselectPort_receiving (receiving : x.phase = .receiving) (begun : x.request ≠ none) :
    deselectPort x = { x with
      phase := .idle, request := none, reply := none
      aborted := if x.aborted < 255 then x.aborted + 1 else x.aborted } := by
  simp [deselectPort, receiving, Option.isSome_iff_ne_none.mpr begun, bump]

theorem deselectPort_replying (replying : x.phase = .replying) :
    deselectPort x = { x with
      phase := .idle, request := none, reply := none, cut := if x.cut < 255 then x.cut + 1 else x.cut } := by
  simp [deselectPort, replying, bump]

theorem clockByte_code (receiving : x.phase = .receiving) (nothing : x.request = none) :
    clockByte b x = { x with request := some { code := b, length := none, body := [] }, miso := 0xFF } := by
  simp [clockByte, receiveByte, addByte, Frame.hasEnded, receiving, nothing]

theorem clockByte_length {code : Byte} (receiving : x.phase = .receiving)
    (coded : x.request = some { code := code, length := none, body := [] }) :
    clockByte b x = { x with
      request := some { code := code, length := some b, body := [] }, miso := 0xFF
      phase := if b = 0 ∨ 60 < b.toNat then .taking else .receiving } := by
  have ends : ({ code := code, length := some b, body := [] } : Frame).hasEnded = true ↔ b = 0 ∨ 60 < b.toNat := by
    simp [Frame.hasEnded, or_comm, ← BitVec.toNat_inj]
  simp only [clockByte, receiveByte, addByte, receiving, coded, ends]

theorem clockByte_body {code n : Byte} {body : List Byte} (receiving : x.phase = .receiving)
    (begun : x.request = some { code := code, length := some n, body := body }) (short : n.toNat ≤ 60) :
    clockByte b x = { x with
      request := some { code := code, length := some n, body := body ++ [b] }, miso := 0xFF
      phase := if n.toNat ≤ body.length + 1 then .taking else .receiving } := by
  simp [clockByte, receiveByte, addByte, Frame.hasEnded, receiving, begun, Nat.not_lt.mpr short]

theorem clockByte_reply {r : ReplyOut} (replying : x.phase = .replying) (reply : x.reply = some r)
    (more : r.sent < r.bytes.length) :
    clockByte b x = { x with
      miso := r.bytes.getD r.sent 0, reply := some { r with sent := r.sent + 1 }
      phase := if r.sent + 1 = r.bytes.length then .done else .replying } := by
  have last : r.bytes.length ≤ r.sent + 1 ↔ r.sent + 1 = r.bytes.length := by omega
  simp only [clockByte, sendByte, replying, reply, last, List.getD_eq_getElem _ _ more]

theorem clockByte_taking (taking : x.phase = .taking) (few : x.filler < 16) :
    clockByte b x = { x with miso := 0xFF, filler := x.filler + 1 } := by
  simp [clockByte, taking, bump_of_lt few]

theorem clockByte_done (done : x.phase = .done) : clockByte b x = { x with miso := 0xFF } := by
  simp [clockByte, done]

end Moves

/-! ### Edges and bytes as commands -/

section Commands

variable {s : State} {p : Port} {b : Byte} {f : PortState → PortState} (running : s.resetHeld = false)

include running

theorem exec_chipSelectFall : exec (.chipSelectFall p) s = .next (s.modifyPort p selectPort) :=
  whenRunning_running running (·.modifyPort p selectPort)

theorem exec_chipSelectRise : exec (.chipSelectRise p) s = .next (raiseSelect p s) :=
  whenRunning_running running _

theorem exec_masterSendsByte : exec (.masterSendsByte p b) s = .next (clockPort p b s) :=
  whenRunning_running running _

/-- A byte outside TAKING, or before 16 fillers, does to its port what the port's phase says, and nothing else. -/
theorem exec_masterSendsByte_port (early : (s.ports.get p).phase = .taking → (s.ports.get p).filler < 16)
    (effect : clockByte b (s.ports.get p) = f (s.ports.get p)) :
    exec (.masterSendsByte p b) s = .next (s.modifyPort p f) := by
  rw [exec_masterSendsByte running, ← s.modifyPort_congr p effect]
  by_cases taking : (s.ports.get p).phase = .taking
  · rw [clockPort_early p b s (early taking)]
  · rw [clockPort_notTaking p b s taking]

end Commands

/-! ### An ended frame taken (R178, R180) -/

section Taking

variable {s t : State} {p : Port} {f : Frame}

theorem takeEndedFrame_of_notTaking (quiet : (s.ports.get p).phase ≠ .taking) : takeEndedFrame p s = s := by
  simp [takeEndedFrame, endedFrame, quiet]

theorem enterReplying_phase (p : Port) (r : Reply) (s : State) :
    ((enterReplying p r s).ports.get p).phase = .replying := by
  simp [enterReplying]

theorem takeEndedFrame_resetHeld (p : Port) (s : State) : (takeEndedFrame p s).resetHeld = s.resetHeld :=
  takeEndedFrame_keeps (P := SamePin s) rfl (fun _ _ _ h => h) fun x body => owner_samePin p x body s

/-- Whichever row takes an ended frame, the port is then REPLYING. -/
theorem takeEndedFrame_phase (ended : endedFrame p s = some f) :
    ((takeEndedFrame p s).ports.get p).phase = .replying := by
  unfold takeEndedFrame
  rw [ended]
  dsimp only
  split
  · unfold answerFrame
    split <;> exact enterReplying_phase _ _ _
  · exact enterReplying_phase _ _ _

/-- A frame is taken once. -/
theorem takeEndedFrame_twice (ended : endedFrame p s = some f) :
    takeEndedFrame p (takeEndedFrame p s) = takeEndedFrame p s :=
  takeEndedFrame_of_notTaking (by simp [takeEndedFrame_phase ended])

/-- A row's command answers an ended frame of its own. -/
theorem exec_request_ended {x : Request} (running : s.resetHeld = false) (ended : endedFrame p s = some f)
    (owned : x.owns f = true) : exec (x.instr p) s = .next (answerFrame x p (ownerOf p x) f s) := by
  simp [exec_request, serve, whenRunning_running running, ended, owned]

/-- UNKNOWN_REQUEST answers an ended frame whose code is not in the catalogue. -/
theorem exec_unknownRequest_ended (running : s.resetHeld = false) (ended : endedFrame p s = some f)
    (unknown : f.code ∉ catalogueCodes) :
    exec (.unknownRequest p) s = .next (enterReplying p (Reply.bare .unknown) s) := by
  show serveUnknown p s = _
  simp [serveUnknown, whenRunning_running running, ended, unknown]

/-- The frame's own command takes it as an edge or a late byte does. -/
theorem exec_requestCommand (running : s.resetHeld = false) (ended : endedFrame p s = some f) :
    exec (requestCommand p f) s = .next (takeEndedFrame p s) := by
  unfold takeEndedFrame requestCommand
  rw [ended]
  dsimp only
  cases row : requestOf f with
  | some x =>
    have owned : x.owns f = true := List.find?_some (p := fun y : Request => y.owns f) row
    exact exec_request_ended running ended owned
  | none =>
    have unknown : f.code ∉ catalogueCodes := fun known => by
      obtain ⟨x, owned⟩ := (exists_owner_iff f).mpr known
      simp [requestOf_of_owns owned] at row
    exact exec_unknownRequest_ended running ended unknown

/-- The rise of chip select after the ended frame was taken is the rise that takes it. -/
theorem raiseSelect_takeEndedFrame (ended : endedFrame p s = some f) :
    raiseSelect p (takeEndedFrame p s) = raiseSelect p s := by
  unfold raiseSelect
  rw [takeEndedFrame_twice ended]

/-- A byte after the ended frame was taken is the late byte that takes it. -/
theorem clockPort_takeEndedFrame (b : Byte) (ended : endedFrame p s = some f) (late : 16 ≤ (s.ports.get p).filler) :
    clockPort p b (takeEndedFrame p s) = clockPort p b s := by
  rw [clockPort_late p b s (endedFrame_eq_some_iff.mp ended).1 late,
    clockPort_notTaking p b _ (by simp [takeEndedFrame_phase ended])]

/-- With no ended frame to take and no RESTART to carry out, the rise ends the port's transaction. -/
theorem exec_chipSelectRise_port {g : PortState → PortState} (running : s.resetHeld = false)
    (noRestart : ¬(p = .console ∧ s.restartAccepted = true)) (quiet : (s.ports.get p).phase ≠ .taking)
    (effect : deselectPort (s.ports.get p) = g (s.ports.get p)) :
    exec (.chipSelectRise p) s = .next (s.modifyPort p g) := by
  rw [exec_chipSelectRise running, ← s.modifyPort_congr p effect]
  unfold raiseSelect
  rw [takeEndedFrame_of_notTaking quiet]
  exact congrArg _ (if_neg noRestart)

end Taking

/-- Settles O5: each edge and byte by the port's phase; and an ended frame is taken once, by its command or by the
edge or byte that finds it. -/
theorem selectAndBytesByPhase : Obligations.SelectAndBytesByPhase := by
  intro p b s running
  refine ⟨fun idle => ?fall, fun busy => ?fallBusy,
    fun noRestart => ⟨fun quiet => ?rise, fun receiving begun => ?riseAborts, fun replying => ?riseCuts⟩,
    fun idle => ?byteIdle, fun receiving nothing => ?byteCode, fun code receiving coded => ?byteLength,
    fun code n body receiving begun short => ?byteBody, fun r replying reply more => ?byteReply,
    fun taking few => ?byteFiller, fun done => ?byteDone, fun f t ended taken => ?ended⟩
  case fall =>
    rw [exec_chipSelectFall running]
    exact congrArg _ (s.modifyPort_congr p (if_pos idle))
  case fallBusy =>
    rw [exec_chipSelectFall running]
    exact congrArg _ (s.modifyPort_eq_self p (if_neg busy))
  case rise =>
    refine exec_chipSelectRise_port running noRestart ?_ (deselectPort_uncounted quiet)
    obtain phase | phase | ⟨phase, -⟩ := quiet <;> simp [phase]
  case riseAborts =>
    exact exec_chipSelectRise_port running noRestart (by simp [receiving]) (deselectPort_receiving receiving begun)
  case riseCuts =>
    exact exec_chipSelectRise_port running noRestart (by simp [replying]) (deselectPort_replying replying)
  case byteIdle =>
    have unmoved : clockByte b (s.ports.get p) = s.ports.get p := by simp [clockByte, idle]
    rw [exec_masterSendsByte_port (f := id) running (by simp [idle]) unmoved, s.modifyPort_eq_self p rfl]
  case byteCode =>
    exact exec_masterSendsByte_port running (by simp [receiving]) (clockByte_code b receiving nothing)
  case byteLength =>
    exact exec_masterSendsByte_port running (by simp [receiving]) (clockByte_length b receiving coded)
  case byteBody =>
    exact exec_masterSendsByte_port running (by simp [receiving]) (clockByte_body b receiving begun short)
  case byteReply =>
    exact exec_masterSendsByte_port running (by simp [replying]) (clockByte_reply b replying reply more)
  case byteFiller =>
    exact exec_masterSendsByte_port running (fun _ => few) (clockByte_taking b taking few)
  case byteDone =>
    exact exec_masterSendsByte_port running (by simp [done]) (clockByte_done b done)
  case ended =>
    obtain rfl := Host.Outcome.next.inj ((exec_requestCommand running ended).symm.trans taken)
    have stillRunning := (takeEndedFrame_resetHeld p s).trans running
    rw [exec_chipSelectRise running, exec_chipSelectRise stillRunning, exec_masterSendsByte running,
      exec_masterSendsByte stillRunning, raiseSelect_takeEndedFrame ended]
    exact ⟨rfl, fun late => by rw [clockPort_takeEndedFrame b ended late]⟩

end Sys2Proof.Machine
end

section
/-!
O6 and O7. A request clocked in and a reply clocked out: what a run of bytes leaves on the port, by induction over
the bytes, one phase rule a byte.
-/

namespace Sys2Proof.Machine

/-- A command that changes one port is followed by a run that changes that port. -/
theorem runCommands_port {p : Port} {s : State} {i : Instr} {is : List Instr} {f g h : PortState → PortState}
    (first : exec i s = .next (s.modifyPort p f))
    (rest : runCommands is (s.modifyPort p f) = some ((s.modifyPort p f).modifyPort p g))
    (both : ∀ x, g (f x) = h x) : runCommands (i :: is) s = some (s.modifyPort p h) := by
  rw [runCommands_next first, rest, s.modifyPort_modifyPort, funext both]

theorem runCommands_single {i : Instr} {s t : State} (e : exec i s = .next t) : runCommands [i] s = some t :=
  runCommands_next e

/-! ### A request clocked in (R177) -/

/-- A port on which a request frame with this code, length byte and body has just ended. -/
def PortState.withEnded (code n : Byte) (body : List Byte) (x : PortState) : PortState :=
  { x with phase := .taking, request := some { code := code, length := some n, body := body }, miso := 0xFF }

/-- Once code and length are received, the bytes that are missing end the frame, its body in their order. -/
theorem runCommands_body {p : Port} {code n : Byte} {received rest : List Byte} {s : State}
    (running : s.resetHeld = false) (receiving : (s.ports.get p).phase = .receiving)
    (begun : (s.ports.get p).request = some { code := code, length := some n, body := received })
    (short : n.toNat ≤ 60) (missing : rest ≠ []) (total : received.length + rest.length = n.toNat) :
    runCommands (rest.map (.masterSendsByte p)) s =
      some (s.modifyPort p (.withEnded code n (received ++ rest))) := by
  induction rest generalizing s received with
  | nil => exact absurd rfl missing
  | cons b rest ih =>
    rw [List.length_cons] at total
    obtain ⟨-, -, -, -, -, -, bodyByte, -⟩ := selectAndBytesByPhase p b s running
    have first := bodyByte code n received receiving begun short
    cases rest with
    | nil =>
      rw [if_pos (by simp at total; omega)] at first
      exact runCommands_single first
    | cons c rest =>
      rw [if_neg (by simp at total; omega)] at first
      rw [List.append_cons received b]
      exact runCommands_port first (ih (s := s.modifyPort p _) running (by simp) (by simp) (List.cons_ne_nil c rest)
        (by simp at total ⊢; omega)) fun _ => rfl

/-- Once the code is received, the length byte ends a frame without a body, and the body's bytes end any other. -/
theorem runCommands_lengthAndBody {p : Port} {code : Byte} {body : List Byte} {s : State}
    (running : s.resetHeld = false) (receiving : (s.ports.get p).phase = .receiving)
    (coded : (s.ports.get p).request = some { code := code, length := none, body := [] }) (short : body.length ≤ 60) :
    runCommands ((byte body.length :: body).map (.masterSendsByte p)) s =
      some (s.modifyPort p (.withEnded code (byte body.length) body)) := by
  have size : (byte body.length).toNat = body.length := byte_toNat (by omega)
  obtain ⟨-, -, -, -, -, lengthByte, -⟩ := selectAndBytesByPhase p (byte body.length) s running
  have sized := lengthByte code receiving coded
  by_cases empty : body = []
  · subst empty
    exact runCommands_single sized
  · have positive : 0 < body.length := List.length_pos_iff.mpr empty
    have more : ¬(byte body.length = 0 ∨ 60 < (byte body.length).toNat) := by
      rintro (zero | long)
      · exact positive.ne (by simpa [zero] using size)
      · omega
    rw [if_neg more] at sized
    exact runCommands_port sized (runCommands_body (s := s.modifyPort p _) (received := []) running (by simp) (by simp)
      (by omega) empty (by simp [size])) fun _ => rfl

/-- Code, length and body clocked into a port that has received nothing leave the frame ended on it. -/
theorem runCommands_frame {p : Port} {code : Byte} {body : List Byte} {s : State} (running : s.resetHeld = false)
    (receiving : (s.ports.get p).phase = .receiving) (nothing : (s.ports.get p).request = none)
    (short : body.length ≤ 60) :
    runCommands ((code :: byte body.length :: body).map (.masterSendsByte p)) s =
      some (s.modifyPort p (.withEnded code (byte body.length) body)) := by
  obtain ⟨-, -, -, -, codeByte, -⟩ := selectAndBytesByPhase p code s running
  exact runCommands_port (codeByte receiving nothing) (runCommands_lengthAndBody (s := s.modifyPort p _) running
    (by simp [receiving]) (by simp) short) fun _ => rfl

/-- Settles O6: the fall readies the port, and the bytes of the frame end it whole. -/
theorem requestReceivedWhole : Obligations.RequestReceivedWhole := by
  intro p code body s running idle short
  obtain ⟨fall, -⟩ := selectAndBytesByPhase p code s running
  refine ⟨_, runCommands_port (fall idle)
    (runCommands_frame (s := s.modifyPort p _) running (by simp) (by simp) short) fun _ => rfl,
    ⟨running, ?_, ?_, short⟩, rfl, fun q other => ?_⟩
  · simp [PortState.withEnded]
  · simp [PortState.withEnded]
  · exact PerPort.get_update_other _ _ other

/-! ### A reply clocked out (R178) -/

/-- A port that has sent the first `n` bytes of a reply, the last of them standing on MISO. -/
def PortState.withSent (reply : List Byte) (n : Nat) (x : PortState) : PortState :=
  { x with
    miso := reply.getD (n - 1) 0, reply := some { bytes := reply, sent := n }
    phase := if n = reply.length then .done else .replying }

/-- Each byte clocked sends the reply's next one. -/
theorem runCommands_reply {p : Port} {reply clocked : List Byte} {n : Nat} {s : State}
    (running : s.resetHeld = false) (replying : (s.ports.get p).phase = .replying)
    (begun : (s.ports.get p).reply = some { bytes := reply, sent := n }) (begins : clocked ≠ [])
    (room : n + clocked.length ≤ reply.length) :
    runCommands (clocked.map (.masterSendsByte p)) s =
      some (s.modifyPort p (.withSent reply (n + clocked.length))) := by
  induction clocked generalizing s n with
  | nil => exact absurd rfl begins
  | cons b rest ih =>
    rw [List.length_cons] at room
    obtain ⟨-, -, -, -, -, -, -, replyByte, -⟩ := selectAndBytesByPhase p b s running
    have first := replyByte _ replying begun (show n < reply.length by omega)
    cases rest with
    | nil => exact runCommands_single first
    | cons c rest =>
      rw [if_neg (by simp at room ⊢; omega)] at first
      rw [show n + (b :: c :: rest).length = (n + 1) + (c :: rest).length by simp; omega]
      exact runCommands_port first (ih (s := s.modifyPort p _) running (by simp) (by simp) (List.cons_ne_nil c rest)
        (by omega)) fun _ => rfl

/-- Settles O7: as many bytes of the reply are sent as the master clocks, and the port is DONE when that is all of
them. -/
theorem replyClockedOutWhole : Obligations.ReplyClockedOutWhole := by
  intro p reply sent s running replying ready clocked room
  have some : 0 < sent.length := List.length_pos_iff.mpr clocked
  have inside : sent.length - 1 < reply.length := by omega
  refine ⟨_, runCommands_reply running replying ready clocked (by omega), ?_, ?_, rfl, fun q other => ?_⟩
  · simp [PortState.withSent, inside]
  · simp [PortState.withSent]
  · exact PerPort.get_update_other _ _ other

end Sys2Proof.Machine
end

section
/-!
O8 and O9. The catalogue, and R180's checks of an ended frame: the row that owns it, the length that fits, the
reserved bits and the roles, each check spelled out, and the first that fails answered.
-/

namespace Sys2Proof.Machine

/-- Settles O9: the table row by row. -/
theorem catalogueAsTabled : Obligations.CatalogueAsTabled := by
  unfold Obligations.CatalogueAsTabled
  rfl

/-! ### The checks in order (R180) -/

section Checks

variable {x : Request} {p : Port} {f : Frame} {s u : State} {r : Reply} (running : s.resetHeld = false)
  (ended : endedFrame p s = some f) (owned : x.owns f = true)

include running ended owned

/-- A frame that fails a check is answered with that check's status alone. -/
theorem exec_turned_away {status : Status} (fails : x.check (portRole p) f = some status) :
    exec (x.instr p) s = .next (withReply p status.code [] s) := by
  rw [exec_request_ended running ended owned]
  simp [answerFrame, fails, enterReplying_eq, Reply.bare]

/-- A frame that passes every check is answered by its owner. -/
theorem exec_passed (passes : x.check (portRole p) f = none) (answer : ownerOf p x f.body s = (u, r)) :
    exec (x.instr p) s = .next (withReply p r.status.code r.body u) := by
  rw [exec_request_ended running ended owned]
  simp [answerFrame, passes, answer, enterReplying_eq]

end Checks

/-! ### The row that owns a frame (R163, R185) -/

theorem Request.owns_target_iff {x : Request} {t : Byte} (code : x.code = 0x10) (target : x.target = some t)
    (f : Frame) : x.owns f = true ↔ f.code = 0x10 ∧ f.body.head? = some t := by
  simp [Request.owns_targeted target, code]

theorem Request.owns_badTarget_iff (f : Frame) :
    Request.badTarget.owns f = true ↔ f.code = 0x10 ∧ ∀ b, f.body.head? = some b → 5 < b.toNat := by
  simp [Request.owns, Request.target, Request.code, Option.all_eq_true]

theorem Request.owns_code_iff {x : Request} (other : x.code ≠ 0x10) (f : Frame) :
    x.owns f = true ↔ f.code = x.code := by
  have untargeted : x.target = none ∧ x ≠ .badTarget := by
    cases x with
    | start | caution | clearCaution | halt | resume | setup | badTarget => exact absurd rfl other
    | _ => exact ⟨rfl, nofun⟩
  obtain ⟨target, proper⟩ := untargeted
  rw [Request.owns_untargeted target proper, beq_iff_eq]

/-! ### The length (R185) -/

theorem Request.lengthFits_iff {x : Request} (fixed : x ≠ .postSamples) (body : List Byte) :
    x.lengthFits body = true ↔ body.length = x.bodyLength := by
  simp [Request.lengthFits, fixed]

theorem Request.lengthFits_postSamples_iff (body : List Byte) : Request.postSamples.lengthFits body = true ↔
    ∃ n rest, body = n :: rest ∧ 1 ≤ n.toNat ∧ n.toNat ≤ 8 ∧ body.length = 1 + 3 * n.toNat := by
  cases body with
  | nil => simp [Request.lengthFits]
  | cons n rest => simp [Request.lengthFits, and_assoc]

/-! ### The reserved bits (R181) -/

/-- Bits 7:1 of a byte are clear just when it is 0 or 1. -/
theorem bits7to1_set_iff (b : Byte) : (b &&& 0xFE != 0) = true ↔ 1 < b.toNat := by
  revert b; decide

/-- Bits 7:5 of a byte are clear just when it is at most 31. -/
theorem bits7to5_set_iff (b : Byte) : (b &&& 0xE0 != 0) = true ↔ 31 < b.toNat := by
  revert b; decide

theorem reservedYesNo_iff (b : Option Byte) : reservedYesNo b = true ↔ ∃ x, b = some x ∧ 1 < x.toNat := by
  simp only [reservedYesNo, Option.any_eq_true, bits7to1_set_iff]

/-- A sample's third byte is its yes/no field (log entry 29). -/
theorem samplesReserved_iff (samples : List (Byte × Byte × Byte)) :
    samplesReserved (samples.flatMap fun x => [x.1, x.2.1, x.2.2]) = true ↔ ∃ x ∈ samples, 1 < x.2.2.toNat := by
  induction samples with
  | nil => simp [samplesReserved]
  | cons x rest ih =>
    simp only [List.flatMap_cons, List.cons_append, List.nil_append, samplesReserved, Bool.or_eq_true,
      bits7to1_set_iff, ih, List.exists_mem_cons_iff]

theorem Request.reservedSet_writeProfile_iff (body : List Byte) : Request.writeProfile.reservedSet body = true ↔
    ∃ i ∈ [1, 7], ∃ b, body[i]? = some b ∧ 1 < b.toNat := by
  simp [Request.reservedSet, reservedYesNo_iff]

theorem Request.reservedSet_clearFlags_iff (body : List Byte) :
    Request.clearFlags.reservedSet body = true ↔ ∃ b, body[0]? = some b ∧ 31 < b.toNat := by
  simp only [Request.reservedSet, Option.any_eq_true, bits7to5_set_iff]

theorem Request.reservedSet_of_plain {x : Request} (body : List Byte)
    (plain : x ∉ [Request.writeSegment, .writeSwitch, .writeGate, .writeProfile, .setLimits, .setEventMask,
      .clearFlags, .postSamples]) : x.reservedSet body = false := by
  cases x with
  | writeSegment | writeSwitch | writeGate | writeProfile | setLimits | setEventMask | clearFlags | postSamples =>
    exact absurd (by decide) plain
  | _ => rfl

/-- Settles O8: the checks in order, and what each of them asks. -/
theorem frameChecksInOrder : Obligations.FrameChecksInOrder := by
  refine ⟨fun x p f s running ended => ⟨exec_unknownRequest_ended running ended, fun owned => ?checks⟩,
    fun f => ⟨fun x row => ?targets, Request.owns_badTarget_iff f, fun x other => Request.owns_code_iff other f⟩,
    fun body => ⟨fun x fixed => Request.lengthFits_iff fixed body, Request.lengthFits_postSamples_iff body,
      fun x row => ?yesNo, Request.reservedSet_writeProfile_iff body, reservedYesNo_iff _, reservedYesNo_iff _,
      Request.reservedSet_clearFlags_iff body, fun _ samples => samplesReserved_iff samples,
      fun x plain => Request.reservedSet_of_plain body plain⟩⟩
  case checks =>
    have turnedAway {status : Status} (fails : x.check (portRole p) f = some status) :=
      exec_turned_away running ended owned fails
    refine ⟨fun long => turnedAway (status := .format) ?_, fun short =>
      ⟨fun misfit => turnedAway (status := .format) ?_, fun fits =>
        ⟨fun reserved => turnedAway (status := .format) ?_, fun clear =>
          ⟨fun barred => turnedAway (status := .role) ?_, fun allowed u r answer => ?_⟩⟩⟩⟩
    · simp [Request.check, long]
    · simp [Request.check, short, misfit]
    · simp [Request.check, short, fits, reserved]
    · simp [Request.check, short, fits, clear, barred]
    · exact exec_passed running ended owned (by simp [Request.check, short, fits, clear, allowed]) answer
  case targets =>
    obtain ⟨code, target⟩ : x.1.code = 0x10 ∧ x.1.target = some x.2 := by
      revert x; decide
    exact Request.owns_target_iff code target f
  case yesNo =>
    simp only [List.mem_cons, List.not_mem_nil, or_false] at row
    obtain rfl | rfl | rfl := row <;> exact reservedYesNo_iff _

end Sys2Proof.Machine
end

section
/-!
O1 and O13. The command at the front of the queue; and the event requests, each on the asking port's own event state,
with the attention lines.
-/

namespace Sys2Proof.Machine

/-- Settles O1: a step matches on the queue. -/
theorem stepRunsFrontCommand : Obligations.StepRunsFrontCommand := fun _ _ _ => rfl

/-! ### Masks as bytes (R181, R194, R196) -/

/-- The class mask reads back from its two bytes, low byte first. -/
theorem mask_of_bytes (mask : BitVec 9) :
    (mask.extractLsb' 8 8).setWidth 1 ++ mask.extractLsb' 0 8 = mask := by
  ext i hi
  simp only [BitVec.getElem_append, BitVec.getElem_extractLsb', BitVec.getElem_setWidth, BitVec.getLsbD_extractLsb']
  split
  · simp [BitVec.getLsbD_eq_getElem hi]
  · obtain rfl : i = 8 := by omega
    simp [BitVec.getLsbD_eq_getElem]

/-- The high byte of a class mask has its reserved bits clear. -/
theorem maskByte_clear (mask : BitVec 9) : ((mask.extractLsb' 8 8) &&& 0xFE != 0) = false := by
  revert mask; decide

/-- A keep-mask has its reserved bits clear. -/
theorem keepByte_clear (keep : BitVec 5) : (keep.setWidth 8 &&& 0xE0 != 0) = false := by
  revert keep; decide

/-- CLEAR FLAGS keeps the flags whose keep bits are 1 (R196). -/
theorem StickyFlags.keep_setWidth (f : StickyFlags) (keep : BitVec 5) : f.keep (keep.setWidth 8) =
    { railFault := f.railFault && keep.getLsbD 0
      overrun := f.overrun && keep.getLsbD 1
      satSeen := f.satSeen && keep.getLsbD 2
      nodeFaultSeen := f.nodeFaultSeen && keep.getLsbD 3
      misrouteSeen := f.misrouteSeen && keep.getLsbD 4 } := by
  simp [StickyFlags.keep]

/-! ### The requests (R189, R193, R194, R196) -/

section Requests

variable {p : Port} {s : State}

theorem eventsReply_eq (queue : List EventRecord) : eventsReply queue =
    [byte (queue.length - 8), byte (min 8 queue.length)] ++ (queue.take 8).flatMap EventRecord.bytes := by
  unfold eventsReply
  rw [List.length_take]

theorem exec_readEvents (frame : FrameEnded p 0x03 [] s) : exec (.readEvents p) s =
    .next (withReply p (if 0 < (s.events.get p).drops then 0x02 else 0x00)
      ([byte ((s.events.get p).queue.length - 8), byte (min 8 (s.events.get p).queue.length)] ++
        ((s.events.get p).queue.take 8).flatMap EventRecord.bytes)
      (s.modifyEvents p fun q => { q with queue := q.queue.drop 8 })) := by
  have answered := exec_owner (x := .readEvents) frame rfl rfl rfl rfl rfl
  rw [← eventsReply_eq]
  split
  · next dropped => simpa [dropped, Status.code, Request.instr] using answered
  · next kept => simpa [kept, Status.code, Request.instr] using answered

theorem exec_setEventMask {mask : BitVec 9}
    (frame : FrameEnded p 0x04 [mask.extractLsb' 0 8, mask.extractLsb' 8 8] s) : exec (.setEventMask p) s =
      .next (withReply p 0x00 [] (s.modifyEvents p fun q => { q with mask := mask })) := by
  refine exec_owner (x := .setEventMask) (r := .bare .ok) frame rfl rfl (maskByte_clear mask) rfl ?_
  simp only [ownerOf, setMask, mask_of_bytes, accept]

theorem exec_clearFlags {keep : BitVec 5} (frame : FrameEnded p 0x05 [keep.setWidth 8] s) :
    exec (.clearFlags p) s = .next (withReply p 0x00 [] (s.modifyEvents p fun q => { q with flags :=
      { railFault := q.flags.railFault && keep.getLsbD 0
        overrun := q.flags.overrun && keep.getLsbD 1
        satSeen := q.flags.satSeen && keep.getLsbD 2
        nodeFaultSeen := q.flags.nodeFaultSeen && keep.getLsbD 3
        misrouteSeen := q.flags.misrouteSeen && keep.getLsbD 4 } })) := by
  refine exec_owner (x := .clearFlags) (r := .bare .ok) frame rfl rfl (keepByte_clear keep) rfl ?_
  simp only [ownerOf, clearFlags, StickyFlags.keep_setWidth, accept]

theorem exec_clearQueue (frame : FrameEnded p 0x06 [] s) : exec (.clearQueue p) s =
    .next (withReply p 0x00 [] (s.modifyEvents p fun q => { q with queue := [], drops := 0 })) :=
  exec_owner (x := .clearQueue) frame rfl rfl rfl rfl rfl

end Requests

/-! ### The attention lines (R184, R195) -/

section Attention

variable {p : Port} {s : State}

theorem attentionAsserted_iff : attentionAsserted s p = true ↔
    (s.events.get p).queue ≠ [] ∨ (p = .base ∧ s.frames.framePending = true) := by
  simp [attentionAsserted]

theorem attentionLine_asserted (running : s.resetHeld = false)
    (asserted : (s.events.get p).queue ≠ [] ∨ (p = .base ∧ s.frames.framePending = true)) :
    attentionLine s p = .drivenLow := by
  simp [attentionLine, running, attentionAsserted_iff.mpr asserted]

theorem attentionLine_released (running : s.resetHeld = false)
    (released : ¬((s.events.get p).queue ≠ [] ∨ (p = .base ∧ s.frames.framePending = true))) :
    attentionLine s p = (match (s.ports.get p).drive with
      | .pushPull => .drivenHigh
      | .openDrain => .undriven) := by
  have quiet : attentionAsserted s p = false := by
    rw [← attentionAsserted_iff] at released
    exact Bool.eq_false_iff.mpr released
  exact (if_neg (by simp [running])).trans (if_neg (by simp [quiet]))

end Attention

/-- Settles O13: each request by its owner on the asking port, and the line by what asserts it. -/
theorem eventRequests : Obligations.EventRequests := fun _ _ =>
  ⟨exec_readEvents, fun _ => exec_setEventMask, fun _ => exec_clearFlags, exec_clearQueue,
    fun running => ⟨attentionLine_asserted running, attentionLine_released running⟩⟩

end Sys2Proof.Machine
end

section
/-!
O11, O12. EVU's taking of a record, port by port; and the twelve bytes in which a master sees one.
-/

namespace Sys2Proof.Machine

/-! ### A record offered to a port (R192) -/

section Offers

variable {q : EventPort} {r : EventRecord}

theorem EventPort.offer_masked (masked : q.mask.getLsbD r.event.maskBit = false) : q.offer r = q := by
  simp [offer, masked]

theorem EventPort.offer_admitted (admits : q.mask.getLsbD r.event.maskBit = true) (room : q.queue.length < 32) :
    q.offer r = { q with queue := q.queue ++ [r] } := by
  simp [offer, admits, room]

theorem EventPort.offer_dropped (admits : q.mask.getLsbD r.event.maskBit = true) (full : 32 ≤ q.queue.length) :
    q.offer r = { q with drops := bump 255 q.drops, flags := { q.flags with overrun := true } } := by
  simp [offer, admits, Nat.not_lt.mpr full]

/-- What an offer can do to a port: nothing, an append while there is room, or a drop. -/
theorem EventPort.offer_cases (q : EventPort) (r : EventRecord) : q.offer r = q ∨
    (q.queue.length < 32 ∧ q.offer r = { q with queue := q.queue ++ [r] }) ∨
    q.offer r = { q with drops := bump 255 q.drops, flags := { q.flags with overrun := true } } := by
  cases admits : q.mask.getLsbD r.event.maskBit with
  | false => exact .inl (offer_masked admits)
  | true =>
    obtain room | full := Nat.lt_or_ge q.queue.length 32
    · exact .inr (.inl ⟨room, offer_admitted admits room⟩)
    · exact .inr (.inr (offer_dropped admits full))

theorem EventPort.offer_mask (q : EventPort) (r : EventRecord) : (q.offer r).mask = q.mask := by
  obtain e | ⟨-, e⟩ | e := offer_cases q r <;> rw [e]

/-- Of the sticky flags an offer moves OVERRUN alone. -/
theorem EventPort.offer_flags (q : EventPort) (r : EventRecord) :
    (q.offer r).flags = { q.flags with overrun := (q.offer r).flags.overrun } := by
  obtain e | ⟨-, e⟩ | e := offer_cases q r <;> rw [e]

theorem EventPort.offer_queue_le (fits : q.queue.length ≤ 32) : (q.offer r).queue.length ≤ 32 := by
  obtain e | ⟨room, e⟩ | e := offer_cases q r <;> rw [e]
  · exact fits
  · simpa using room
  · exact fits

end Offers

/-! ### The flags that raising sets (R196) -/

section Flags

variable (f : StickyFlags) (e : Event)

/-- Raising an event leaves the three flags that other occasions set. -/
theorem StickyFlags.markedBy_kept : (f.markedBy e).railFault = f.railFault ∧ (f.markedBy e).overrun = f.overrun ∧
    (f.markedBy e).satSeen = f.satSeen := by
  cases e <;> exact ⟨rfl, rfl, rfl⟩

theorem StickyFlags.markedBy_nodeFaultSeen : (f.markedBy e).nodeFaultSeen = true ↔
    f.nodeFaultSeen = true ∨ ∃ a n m, e = .nodeFault a n m := by
  cases e <;> simp [markedBy]

theorem StickyFlags.markedBy_misrouteSeen : (f.markedBy e).misrouteSeen = true ↔
    f.misrouteSeen = true ∨ ∃ c j n, e = .misroute c j n := by
  cases e <;> simp [markedBy]

end Flags

/-- A port as an event that is raised finds it: the event's own sticky flags set. -/
def EventPort.marked (q : EventPort) (e : Event) : EventPort := { q with flags := q.flags.markedBy e }

/-- Each port takes a raised event alone: its flags marked, and then the record offered. -/
theorem raise_get (e : Event) (s : State) (p : Port) :
    (raise e s).events.get p = ((s.events.get p).marked e).offer { time := s.clock, event := e } :=
  PerPort.get_map _ _ p

/-- Settles O11: port by port, by the three outcomes of an offer and the flags that the event marks. -/
theorem raisingOffersToEveryPort : Obligations.RaisingOffersToEveryPort := by
  refine fun e s => ⟨raise_footprint e s, fun p => ?_⟩
  rw [raise_get]
  generalize s.events.get p = q
  obtain ⟨railFault, overrun, satSeen⟩ := q.flags.markedBy_kept e
  have flags := (q.marked e).offer_flags ⟨s.clock, e⟩
  refine ⟨EventPort.offer_mask _ _, fun masked => ?_, fun admits room => ?_, fun admits full => ?_,
    fun fits => EventPort.offer_queue_le (q := q.marked e) fits, ?_, ?_, ?_, ?_⟩
  · rw [EventPort.offer_masked (q := q.marked e) (r := ⟨s.clock, e⟩) masked]
    exact ⟨rfl, rfl, overrun⟩
  · rw [EventPort.offer_admitted (q := q.marked e) (r := ⟨s.clock, e⟩) admits room]
    exact ⟨rfl, rfl, overrun⟩
  · rw [EventPort.offer_dropped (q := q.marked e) (r := ⟨s.clock, e⟩) admits full]
    exact ⟨rfl, rfl, rfl⟩
  · rw [flags]; exact railFault
  · rw [flags]; exact satSeen
  · rw [flags]; exact StickyFlags.markedBy_nodeFaultSeen _ e
  · rw [flags]; exact StickyFlags.markedBy_misrouteSeen _ e

/-! ### The twelve bytes (R190) -/

theorem Event.maskBit_lt (e : Event) : e.maskBit < 9 := by
  unfold maskBit
  split <;> decide

theorem Event.data_length (e : Event) : e.data.length = 4 := by
  cases e <;> rfl

theorem EventRecord.bytes_length (r : EventRecord) : r.bytes.length = 12 := by
  simp [bytes, bytes4, Event.data_length]

/-! ### VERDICT data, field by field (R191) -/

section Fields

variable {m n : Nat} (hi : BitVec m) (lo : BitVec n)

/-- A bit above a word's lowest field lies in the fields above it. -/
theorem getLsbD_above_field {i : Nat} (above : n ≤ i) : (hi ++ lo).getLsbD i = hi.getLsbD (i - n) := by
  rw [BitVec.getLsbD_append, if_neg (Nat.not_lt.mpr above)]

theorem getLsbD_in_field {i : Nat} (within : i < n) : (hi ++ lo).getLsbD i = lo.getLsbD i := by
  rw [BitVec.getLsbD_append, if_pos within]

/-- A flag in a word's lowest bit reads back. -/
theorem getLsbD_flag (b : Bool) : (hi ++ BitVec.ofBool b).getLsbD 0 = b := by
  rw [getLsbD_in_field _ _ Nat.one_pos, BitVec.getLsbD_ofBool]
  rfl

/-- A word's lowest field reads back whole. -/
theorem extractLsb'_field : (hi ++ lo).extractLsb' 0 n = lo := by
  rw [BitVec.extractLsb'_append_eq_of_add_le (by omega), BitVec.extractLsb'_eq_self]

end Fields

namespace VerdictRecord

variable (v : VerdictRecord)

/-- The field of the first conflicting car: Fh for none. -/
def firstField : BitVec 4 :=
  match v.firstConflict with
  | some c => BitVec.ofNat 4 c.val
  | none => 0xF

/-- The verdict's field, and the clear byte above it. -/
def verdictField : BitVec 11 := (0 : BitVec 8) ++ BitVec.ofNat 3 v.verdict.code

theorem data_eq : v.data = v.verdictField ++ BitVec.ofBool v.flagU ++ BitVec.ofBool v.flagS ++
    BitVec.ofBool v.flagL ++ BitVec.ofBool v.flagC ++ BitVec.ofBool v.flagG ++ v.firstField ++ v.conflicts := rfl

theorem data_firstConflict : (v.data.extractLsb' 12 4).toNat = (match v.firstConflict with
    | some c => c.val
    | none => 15) := by
  have field : v.data.extractLsb' 12 4 = v.firstField :=
    (BitVec.extractLsb'_append_eq_of_le (by decide)).trans (extractLsb'_field _ v.firstField)
  rw [field]
  unfold firstField
  cases v.firstConflict with
  | none => rfl
  | some c => exact Nat.mod_eq_of_lt (by omega)

theorem data_flags : v.data.getLsbD 16 = v.flagG ∧ v.data.getLsbD 17 = v.flagC ∧ v.data.getLsbD 18 = v.flagL ∧
    v.data.getLsbD 19 = v.flagS ∧ v.data.getLsbD 20 = v.flagU := by
  rw [data_eq]
  refine ⟨?_, ?_, ?_, ?_, ?_⟩
  all_goals
    repeat rw [getLsbD_above_field _ _ (by decide)]
    exact getLsbD_flag _ _

/-- From bit 21 up VERDICT data is the verdict's field. -/
theorem data_above_flags (i k : Nat) : v.data.extractLsb' (21 + i) k = v.verdictField.extractLsb' i k := by
  rw [data_eq]
  iterate 7 rw [BitVec.extractLsb'_append_eq_of_le (by omega)]
  congr 1
  omega

theorem data_verdict : (v.data.extractLsb' 21 3).toNat = v.verdict.code := by
  have field : v.data.extractLsb' 21 3 = BitVec.ofNat 3 v.verdict.code :=
    (v.data_above_flags 0 3).trans (extractLsb'_field (0 : BitVec 8) _)
  rw [field]
  cases v.verdict <;> rfl

theorem data_clear : v.data.extractLsb' 24 8 = 0 :=
  (v.data_above_flags 3 8).trans
    ((BitVec.extractLsb'_append_eq_of_le (by decide)).trans BitVec.extractLsb'_eq_self)

end VerdictRecord

/-- Settles O12: byte by byte for each kind of event, code by code, and field by field for VERDICT data. -/
theorem recordLayout : Obligations.RecordLayout := by
  refine ⟨fun r => ⟨r.event.maskBit_lt, r.bytes_length, rfl⟩, fun t => ?_, ?_, fun v => ?_⟩
  · exact ⟨fun _ _ => rfl, fun _ _ _ => rfl, fun _ _ => rfl, fun _ _ _ => rfl, fun _ _ _ => rfl, fun _ => rfl,
      fun _ _ _ => rfl, fun _ _ _ => rfl, fun _ _ _ => rfl, fun _ _ _ _ _ => rfl, fun _ _ _ => rfl,
      fun _ _ _ => rfl, fun _ _ _ => rfl, fun _ _ => rfl, fun _ _ => rfl, fun _ _ _ _ _ => rfl, fun _ _ _ => rfl,
      fun _ _ _ => rfl, fun _ _ _ => rfl, fun _ _ _ => rfl, fun _ => rfl, fun _ => rfl, fun _ _ => rfl,
      fun _ _ => rfl, fun _ _ _ => rfl⟩
  · decide
  · obtain ⟨flagG, flagC, flagL, flagS, flagU⟩ := v.data_flags
    exact ⟨fun n low => getLsbD_in_field _ _ low, v.data_firstConflict, flagG, flagC, flagL, flagS, flagU,
      v.data_verdict, v.data_clear⟩

end Sys2Proof.Machine
end

section
/-!
O14. What a command can do to the event ports, said once for every command: records are offered, sticky flags change,
and a port is read, masked, emptied or reset. Each of these moves keeps the queue and the drop count within their
bounds, so every step does.
-/

namespace Sys2Proof.Machine

/-! ### Moves of an event port -/

/-- What one command can do to a port's event state, in one move after another (R192 to R194, R196). -/
inductive EventPort.Move : EventPort → EventPort → Prop where
  | stays (q : EventPort) : Move q q
  | offered (r : EventRecord) (q : EventPort) : Move q (q.offer r)
  | flagged (f : StickyFlags) (q : EventPort) : Move q { q with flags := f }
  | masked (m : BitVec 9) (q : EventPort) : Move q { q with mask := m }
  | read (n : Nat) (q : EventPort) : Move q { q with queue := q.queue.drop n }
  | emptied (q : EventPort) : Move q { q with queue := [], drops := 0 }
  | resets (m : BitVec 9) (q : EventPort) : Move q (EventPort.reset m)
  | trans {q r t : EventPort} : Move q r → Move r t → Move q t

/-- A port's part of the event law (R192). -/
def EventPort.Bounded (q : EventPort) : Prop := q.queue.length ≤ 32 ∧ q.drops ≤ 255

/-- An offer appends only while there is room, and the drop count stops. -/
theorem EventPort.Bounded.offer {q : EventPort} (h : q.Bounded) (r : EventRecord) : (q.offer r).Bounded := by
  obtain ⟨queue, drops⟩ := h
  obtain e | ⟨room, e⟩ | e := q.offer_cases r <;> rw [e]
  · exact ⟨queue, drops⟩
  · exact ⟨by simpa using room, drops⟩
  · exact ⟨queue, bump_le drops⟩

theorem EventPort.Bounded.move {q r : EventPort} (h : q.Bounded) (m : q.Move r) : r.Bounded := by
  induction m with
  | stays => exact h
  | offered r => exact h.offer r
  | flagged | masked => exact h
  | read n q =>
    obtain ⟨queue, drops⟩ := h
    exact ⟨(q.queue.drop_sublist n).length_le.trans queue, drops⟩
  | emptied | resets => exact ⟨Nat.zero_le _, Nat.zero_le _⟩
  | trans _ _ first second => exact second (first h)

/-- From `s` to `t` each port's event state has made its moves. -/
def EventsMoved (s t : State) : Prop := ∀ p, (s.events.get p).Move (t.events.get p)

theorem EventLaw.move {s t : State} (h : EventLaw s) (m : EventsMoved s t) : EventLaw t :=
  fun p => EventPort.Bounded.move (h p) (m p)

section Operations

variable {s u t : State}

theorem EventsMoved.refl (s : State) : EventsMoved s s := fun _ => .stays _

/-- A state that differs elsewhere only has made the same moves. -/
theorem EventsMoved.elsewhere (h : EventsMoved s u) (same : t.events = u.events) : EventsMoved s t :=
  fun p => same ▸ h p

/-- Raising an event sets sticky flags, and offers each port a record. -/
theorem EventsMoved.raise (h : EventsMoved s u) (e : Event) : EventsMoved s (raise e u) := fun p => by
  rw [raise_get]
  exact (h p).trans ((EventPort.Move.flagged _ _).trans (.offered _ _))

theorem EventsMoved.flagAllPorts (h : EventsMoved s u) (f : StickyFlags → StickyFlags) :
    EventsMoved s (flagAllPorts f u) := fun p => by
  unfold Machine.flagAllPorts
  rw [PerPort.get_map]
  exact (h p).trans (.flagged _ _)

theorem EventsMoved.modifyEvents (h : EventsMoved s u) (p : Port) {f : EventPort → EventPort}
    (m : ∀ q : EventPort, q.Move (f q)) : EventsMoved s (u.modifyEvents p f) := fun q => by
  rw [State.modifyEvents_events, PerPort.get_update]
  split
  · exact (h q).trans (m _)
  · exact h q

theorem EventsMoved.foldl {α : Type} (h : EventsMoved s u) (op : State → α → State)
    (k : ∀ v a, EventsMoved s v → EventsMoved s (op v a)) (l : List α) : EventsMoved s (l.foldl op u) :=
  List.foldlRecOn l op h fun v hv a _ => k v a hv

theorem eventsMoved_powerOn (x : Straps) (s u : State) : EventsMoved s (powerOn x u) := fun p => by
  cases p <;> exact .resets _ _

theorem EventsMoved.used (h : EventsMoved s u) (e : UseFootprint u t) : EventsMoved s t :=
  h.elsewhere (by rw [e])

theorem EventsMoved.wakeLoop (h : EventsMoved s u) : EventsMoved s (wakeLoop u) :=
  h.elsewhere (by rw [wakeLoop_footprint])

/-! ### One entry replaced -/

theorem EventsMoved.modifyCar (h : EventsMoved s u) (c : CarNo) (f : Car → Car) :
    EventsMoved s (u.modifyCar c f) := h

theorem EventsMoved.modifyHandset (h : EventsMoved s u) (n : HandsetNo) (f : Handset → Handset) :
    EventsMoved s (u.modifyHandset n f) := h

theorem EventsMoved.modifySwitch (h : EventsMoved s u) (j : SwitchNo) (f : SwitchRun → SwitchRun) :
    EventsMoved s (u.modifySwitch j f) := h

theorem EventsMoved.modifyNode (h : EventsMoved s u) (a : NodeNo) (f : NodeRecord → NodeRecord) :
    EventsMoved s (u.modifyNode a f) := h

theorem EventsMoved.setList (h : EventsMoved s u) (j : SwitchNo) (l : List Reservation) :
    EventsMoved s (u.setList j l) := h

/-! ### Switches -/

theorem EventsMoved.commandPosition (h : EventsMoved s u) (j : SwitchNo) (x : Position) :
    EventsMoved s (commandPosition j x u) :=
  h.elsewhere (by rw [commandPosition_eq])

theorem EventsMoved.leaveUrgent (h : EventsMoved s u) (j : SwitchNo) : EventsMoved s (leaveUrgent j u) := h

theorem EventsMoved.cancelDeadline (h : EventsMoved s u) (j : SwitchNo) : EventsMoved s (cancelDeadline j u) := h

theorem EventsMoved.changeState (h : EventsMoved s u) (j : SwitchNo) (x : SwitchState) (cause : SwitchCause) :
    EventsMoved s (changeState j x cause u) :=
  (h.modifySwitch j _).raise _

theorem EventsMoved.throwRequest (h : EventsMoved s u) (j : SwitchNo) : EventsMoved s (throwRequest j u) := by
  unfold Machine.throwRequest
  split
  · exact (h.commandPosition j _).changeState j _ _
  · exact (h.commandPosition j _).changeState j _ _
  all_goals exact h

theorem EventsMoved.returnRequest (h : EventsMoved s u) (j : SwitchNo) : EventsMoved s (returnRequest j u) := by
  unfold Machine.returnRequest
  split
  · exact (h.commandPosition j _).changeState j _ _
  · exact (h.commandPosition j _).changeState j _ _
  all_goals exact h

theorem EventsMoved.returnIfEmpty (h : EventsMoved s u) (j : SwitchNo) : EventsMoved s (returnIfEmpty j u) := by
  unfold Machine.returnIfEmpty
  split
  · exact h.returnRequest j
  · exact h

theorem EventsMoved.revokeList (h : EventsMoved s u) (cause : RevokeCause) (j : SwitchNo) :
    EventsMoved s (revokeList cause j u) := by
  cases list : u.lists[j] with
  | nil => rwa [revokeList_nil cause list]
  | cons e es =>
    rw [revokeList_cons cause list]
    exact ((h.setList j []).foldl _ (fun _ _ k => k.raise _) (e :: es)).returnRequest j

theorem EventsMoved.revokeAllLists (h : EventsMoved s u) : EventsMoved s (revokeAllLists u) :=
  h.foldl _ (fun _ j k => k.revokeList .halt j) _

theorem EventsMoved.enterFault (h : EventsMoved s u) (j : SwitchNo) (cause : SwitchCause) :
    EventsMoved s (enterFault j cause u) := by
  unfold Machine.enterFault
  split
  · exact h
  · exact (((h.modifySwitch j _).leaveUrgent j).changeState j _ cause).revokeList .fault j

theorem EventsMoved.becomeLocked (h : EventsMoved s u) (j : SwitchNo) : EventsMoved s (becomeLocked j u) :=
  (h.changeState j _ _).revokeList .lock j

theorem EventsMoved.lockSwitch (h : EventsMoved s u) (j : SwitchNo) : EventsMoved s (lockSwitch j u).1 := by
  unfold Machine.lockSwitch
  split
  · exact h.becomeLocked j
  · exact (h.commandPosition j _).becomeLocked j
  · exact (h.commandPosition j _).becomeLocked j
  · exact (h.commandPosition j _).becomeLocked j
  all_goals exact h

theorem EventsMoved.unlockSwitch (h : EventsMoved s u) (j : SwitchNo) : EventsMoved s (unlockSwitch j u).1 := by
  unfold Machine.unlockSwitch
  dsimp only
  split
  · split <;> exact h.changeState j _ _
  all_goals exact h

theorem EventsMoved.clearSwitch (h : EventsMoved s u) (j : SwitchNo) : EventsMoved s (clearSwitch j u).1 := by
  unfold Machine.clearSwitch
  split
  · split
    · exact h
    · exact (h.commandPosition j _).changeState j _ _
  all_goals exact h

theorem EventsMoved.positionReport (h : EventsMoved s u) (j : SwitchNo) (x : ReportedPosition) :
    EventsMoved s (positionReport j x u) := by
  have confirmed := h.modifySwitch j fun r => { r with confirmed := confirmedBy x }
  unfold Machine.positionReport
  dsimp only
  split
  · split
    · exact confirmed
    · exact (confirmed.commandPosition j _).changeState j _ _
  · split
    · exact (confirmed.cancelDeadline j).changeState j _ _
    · exact confirmed
  · split
    · exact confirmed
    · exact (confirmed.commandPosition j _).changeState j _ _
  · split
    · exact (confirmed.cancelDeadline j).changeState j _ _
    · exact confirmed
  · split
    · exact confirmed.cancelDeadline j
    · split
      · exact confirmed.commandPosition j _
      · exact confirmed
  · exact confirmed

theorem EventsMoved.takePosition (h : EventsMoved s u) (j : SwitchNo) (x : ReportedPosition) :
    EventsMoved s (takePosition j x u) := by
  unfold Machine.takePosition
  dsimp only
  split
  · exact (h.positionReport j x).leaveUrgent j
  · exact h.positionReport j x

theorem EventsMoved.takePassage (h : EventsMoved s u) (k : CarNo) (j : SwitchNo) (thrownExit : Bool) :
    EventsMoved s (takePassage k j thrownExit u) := by
  unfold Machine.takePassage
  dsimp only
  split
  · split
    · exact (h.setList j _).returnIfEmpty j
    · exact (((h.setList j _).modifyCar k _).raise _).returnIfEmpty j
  · split
    · exact h.raise _
    · exact h

theorem EventsMoved.passage (h : EventsMoved s u) (k : CarNo) (j : SwitchNo) (thrownExit : Bool) :
    EventsMoved s (passage k j thrownExit u) :=
  (h.modifySwitch j _).takePassage k j thrownExit

/-! ### Settlements -/

theorem EventsMoved.supersedeAt (h : EventsMoved s u) (k : CarNo) (j : SwitchNo) :
    EventsMoved s (supersedeAt k j u) := by
  unfold Machine.supersedeAt
  split
  · exact ((h.setList j _).raise _).returnIfEmpty j
  · exact h

theorem EventsMoved.supersede (h : EventsMoved s u) (k : CarNo) : EventsMoved s (supersede k u) :=
  h.foldl _ (fun _ j hv => hv.supersedeAt k j) _

theorem EventsMoved.saturationReport (h : EventsMoved s u) (v : VerdictRecord) :
    EventsMoved s (saturationReport v u) := by
  unfold Machine.saturationReport
  dsimp only
  split
  · split
    · exact (h.flagAllPorts _).raise _
    · exact h.flagAllPorts _
  · exact h

theorem EventsMoved.carryOutGrant (h : EventsMoved s u) (v : VerdictRecord) : EventsMoved s (carryOutGrant v u) := by
  unfold Machine.carryOutGrant
  split
  · exact (h.setList _ _).throwRequest _
  · exact h

theorem EventsMoved.handOnVerdict (h : EventsMoved s u) (v : VerdictRecord) : EventsMoved s (handOnVerdict v u) := by
  refine EventsMoved.carryOutGrant (EventsMoved.saturationReport (EventsMoved.raise ?_ _) v) v
  exact h.elsewhere rfl

theorem EventsMoved.settle (h : EventsMoved s u) (k : CarNo) (j : SwitchNo) (t : Time) :
    EventsMoved s (settle k j t u) :=
  (h.supersede k).handOnVerdict _

theorem EventsMoved.entryDetection (h : EventsMoved s u) (k : CarNo) (j : SwitchNo) (t : Time) :
    EventsMoved s (entryDetection k j t u) := by
  unfold Machine.entryDetection
  split
  · exact (h.modifyCar k _).settle k j t
  · exact h

/-! ### Pairing -/

theorem EventsMoved.makeBinding (h : EventsMoved s u) (n : HandsetNo) (c : CarNo) (source : BindSource) :
    EventsMoved s (makeBinding n c source u) :=
  ((h.modifyHandset n _).modifyCar c _).raise _

theorem EventsMoved.dissolve (h : EventsMoved s u) (n : HandsetNo) (c : CarNo) (cause : UnbindCause) :
    EventsMoved s (dissolve n c cause u) :=
  ((h.modifyHandset n _).modifyCar c _).raise _

theorem EventsMoved.leaveQueue (h : EventsMoved s u) (n : HandsetNo) : EventsMoved s (leaveQueue n u) := h

theorem EventsMoved.joinQueue (h : EventsMoved s u) (n : HandsetNo) : EventsMoved s (joinQueue n u) := by
  refine EventsMoved.raise ?_ _
  exact h.elsewhere rfl

theorem EventsMoved.cancelSeek (h : EventsMoved s u) (n : HandsetNo) : EventsMoved s (cancelSeek n u) :=
  ((h.leaveQueue n).modifyHandset n _).raise _

theorem EventsMoved.seekRequest (h : EventsMoved s u) (n : HandsetNo) : EventsMoved s (seekRequest n u) := by
  unfold Machine.seekRequest
  split
  · exact h.raise _
  · split
    · exact (h.dissolve n _ _).joinQueue n
    · exact h.joinQueue n
    · exact h.joinQueue n

theorem EventsMoved.pairingGateDetection (h : EventsMoved s u) (c : CarNo) :
    EventsMoved s (pairingGateDetection c u) := by
  unfold Machine.pairingGateDetection
  split
  · exact h
  · split
    · exact (h.leaveQueue _).makeBinding _ c _
    · exact h

theorem EventsMoved.storeProfile (h : EventsMoved s u) (c : CarNo) (p : Profile) :
    EventsMoved s (storeProfile c p u) := by
  unfold Machine.storeProfile dissolveDisabled
  dsimp only
  split
  · refine EventsMoved.modifyCar ?_ c _
    split
    · exact (h.modifyCar c _).dissolve _ _ _
    · exact h.modifyCar c _
  · exact h.modifyCar c _

/-! ### Handsets -/

/-- A button's level arms an intent at most, and raises nothing (R54). -/
theorem takeButton_events (n : HandsetNo) (level : Bool) (s : State) : (takeButton n level s).events = s.events := by
  unfold takeButton
  dsimp only
  split
  · rfl
  · split
    · split
      · rw [armRequest_footprint]
        rfl
      all_goals rfl
    · rfl

theorem debounceButton_events (n : HandsetNo) (sample : Bool) (s : State) :
    (debounceButton n sample s).events = s.events := by
  unfold debounceButton
  dsimp only
  split
  · exact takeButton_events n sample s
  · rfl

theorem EventsMoved.takeWiredResult (h : EventsMoved s u) (n : HandsetNo) (raw : Nat) (sample : Bool) :
    EventsMoved s (takeWiredResult n raw sample u) := by
  unfold Machine.takeWiredResult
  dsimp only
  split
  · split
    · exact h.elsewhere (debounceButton_events ..)
    · split
      · exact h.elsewhere (debounceButton_events ..)
      · exact ((h.modifyHandset n _).modifyHandset n _).raise _
  all_goals
    split
    · exact (h.modifyHandset n _).modifyHandset n _
    · split
      · exact (h.modifyHandset n _).modifyHandset n _
      · exact ((h.modifyHandset n _).modifyHandset n _).raise _

theorem EventsMoved.takeSample (h : EventsMoved s u) (n : HandsetNo) (throttle : Nat) (pressed : Bool) :
    EventsMoved s (takeSample n throttle pressed u) := by
  unfold Machine.takeSample
  dsimp only
  refine EventsMoved.elsewhere (EventsMoved.modifyHandset ?_ n _) (takeButton_events ..)
  split
  · exact h.modifyHandset n _
  · exact ((h.modifyHandset n _).modifyHandset n _).raise _

theorem EventsMoved.takeSamples (h : EventsMoved s u) (samples : List Byte) :
    EventsMoved s (takeSamples samples u) := by
  induction samples, u using Machine.takeSamples.induct with
  | case1 u n throttle pressed rest ih =>
    rw [Machine.takeSamples]
    apply ih
    split
    · exact h.takeSample _ _ _
    · exact h
  | case2 samples u short =>
    rw [Machine.takeSamples]
    · exact h
    · exact short

theorem EventsMoved.leaveScanSet (h : EventsMoved s u) (n : HandsetNo) : EventsMoved s (leaveScanSet n u) := by
  unfold Machine.leaveScanSet
  dsimp only
  split
  · exact (h.modifyHandset n _).raise _
  · exact h.modifyHandset n _

theorem EventsMoved.restartScanner (h : EventsMoved s u) (setCode intervalCode : Nat) :
    EventsMoved s (restartScanner setCode intervalCode u) := h

theorem EventsMoved.applyScan (h : EventsMoved s u) (setCode intervalCode : Nat) :
    EventsMoved s (applyScan setCode intervalCode u) :=
  (h.restartScanner setCode intervalCode).foldl _ (fun _ n k => k.leaveScanSet n) _

/-! ### Detections and exchanges -/

theorem EventsMoved.takeDetection (h : EventsMoved s u) (k : CarNo) (q : Sensor) (t : Time) :
    EventsMoved s (takeDetection k q t u) := by
  unfold Machine.takeDetection
  split
  · exact h.modifyCar k _
  · exact h.modifyCar k _
  · exact (h.modifyCar k _).raise _

theorem EventsMoved.handOn (h : EventsMoved s u) (k : CarNo) (q : Sensor) (t : Time) :
    EventsMoved s (handOn k q t u) := by
  unfold Machine.handOn
  split
  · split
    · exact h.entryDetection k _ t
    · exact h
  · exact h.passage k _ _
  · exact h.passage k _ _
  · split
    · exact h.pairingGateDetection k
    · exact h
  · exact h

theorem EventsMoved.takeRecord (h : EventsMoved s u) (a : NodeNo) (d : Detection) :
    EventsMoved s (takeRecord a u d) := by
  unfold Machine.takeRecord
  split
  · dsimp only
    split
    · exact (h.takeDetection _ _ _).handOn _ _ _
    · exact h.raise _
  · exact h.raise _

theorem EventsMoved.takeRecords (h : EventsMoved s u) (a : NodeNo) (r : NodeReply) :
    EventsMoved s (takeRecords a r u) := by
  have records : EventsMoved s ((oldestFirst r.detections).foldl (Machine.takeRecord a) u) :=
    h.foldl _ (fun _ d k => k.takeRecord a d) _
  unfold Machine.takeRecords
  dsimp only
  split
  · exact records.raise _
  · exact records

theorem EventsMoved.tellNews (h : EventsMoved s u) (a : NodeNo) (news : NodeNews) :
    EventsMoved s (tellNews a news u) := by
  unfold Machine.tellNews
  split
  · exact h
  · unfold nodeFaults
    dsimp only
    split
    · exact (h.raise _).enterFault _ _
    · exact h.raise _
  · exact h.raise _

theorem EventsMoved.takeMiss (h : EventsMoved s u) (a : NodeNo) : EventsMoved s (takeMiss a u) :=
  (h.modifyNode a _).tellNews a _

theorem EventsMoved.takeReply (h : EventsMoved s u) (a : NodeNo) (r : NodeReply) :
    EventsMoved s (takeReply a r u) := by
  have answered : EventsMoved s (takeAnswer a u) := (h.modifyNode a _).tellNews a _
  unfold Machine.takeReply
  dsimp only
  refine EventsMoved.takeRecords ?_ a r
  split
  · exact answered.takePosition _ _
  · exact answered

/-- An exchange's end raises what its outcome does. -/
theorem EventsMoved.endExchange (h : EventsMoved s u) (x : Exchange) {outcome : State → State}
    (k : EventsMoved s (outcome u)) : EventsMoved s (endExchange x outcome u) := by
  unfold Machine.endExchange
  refine EventsMoved.elsewhere ?_ (by rw [arbitrate_footprint])
  split
  · exact h
  · exact k.elsewhere (by rw [moveServed_footprint])

/-! ### Race states and the settings store -/

theorem EventsMoved.validated (h : EventsMoved s u) (b : Bool) : EventsMoved s { u with mapValid := b } := h

theorem EventsMoved.warmRestart (h : EventsMoved s u) : EventsMoved s (warmRestart u) := h

theorem EventsMoved.changeRace (h : EventsMoved s u) (x : RaceState) (cause : RaceCause) :
    EventsMoved s (changeRace x cause u) := by
  refine EventsMoved.raise ?_ _
  exact h.elsewhere rfl

theorem EventsMoved.clearIntents (h : EventsMoved s u) : EventsMoved s (clearIntents u) := h

theorem EventsMoved.haltRace (h : EventsMoved s u) (cause : RaceCause) : EventsMoved s (haltRace cause u) :=
  (h.changeRace _ _).clearIntents.revokeAllLists

theorem EventsMoved.takeRailFault (h : EventsMoved s u) : EventsMoved s (takeRailFault u) := by
  have latched : EventsMoved s (railLatched u) := by
    refine EventsMoved.raise (EventsMoved.flagAllPorts ?_ _) _
    exact h.elsewhere rfl
  cases race : u.race with
  | setup => rwa [takeRailFault_still (.inl race)]
  | halt => rwa [takeRailFault_still (.inr race)]
  | run => rw [takeRailFault_running (.inl race)]; exact latched.haltRace _
  | caution => rw [takeRailFault_running (.inr race)]; exact latched.haltRace _

theorem EventsMoved.confirmWrite (h : EventsMoved s u) (p : SaveProgress) : EventsMoved s (confirmWrite p u) := by
  unfold Machine.confirmWrite
  split
  · exact h.elsewhere rfl
  · exact h.elsewhere rfl
  · exact h.elsewhere rfl
  · refine EventsMoved.raise ?_ _
    exact h.elsewhere rfl

theorem EventsMoved.failSave (h : EventsMoved s u) : EventsMoved s (failSave u) := by
  refine EventsMoved.raise ?_ _
  exact h.elsewhere rfl

theorem EventsMoved.completeLoad (h : EventsMoved s u) : EventsMoved s (completeLoad u) := by
  unfold Machine.completeLoad
  split
  · refine EventsMoved.raise ?_ _
    exact h.elsewhere rfl
  · rw [applyLoad_eq]
    refine EventsMoved.wakeLoop (EventsMoved.raise ?_ _)
    exact h.elsewhere rfl

theorem EventsMoved.storeSwitch (h : EventsMoved s u) (j : SwitchNo) (r : Switch) :
    EventsMoved s (storeSwitch j r u) := by
  refine EventsMoved.wakeLoop (EventsMoved.used ?_ (followSwitchUse_useFootprint _ _ j _))
  exact h.elsewhere rfl

theorem EventsMoved.storeGate (h : EventsMoved s u) (g : Fin 16) (r : Gate) : EventsMoved s (storeGate g r u) := by
  refine EventsMoved.wakeLoop (h.elsewhere ?_)
  rw [followGateUse_footprint]
  rfl

end Operations

/-! ### Owners of requests -/

/-- What every request's owner does to the event ports. -/
theorem owner_eventsMoved (p : Port) (x : Request) (body : List Byte) (s : State) :
    EventsMoved s (ownerOf p x body s).1 := by
  have h := EventsMoved.refl s
  cases x with
  | identify | status | badTarget | readPairing => exact h
  | readEvents => exact h.modifyEvents p fun q => .read 8 q
  | setEventMask =>
    dsimp only [ownerOf]
    unfold setMask
    split
    · exact h.modifyEvents p fun q => .masked _ q
    · exact h
  | clearFlags =>
    dsimp only [ownerOf]
    unfold clearFlags
    split
    · exact h.modifyEvents p fun q => .flagged _ q
    · exact h
  | clearQueue => exact h.modifyEvents p fun q => .emptied q
  | start =>
    dsimp only [ownerOf]
    unfold startRace
    split
    · exact enterRun_keeps h h.validated ((h.validated true).changeRace _ _)
    all_goals exact h
  | caution =>
    dsimp only [ownerOf]
    unfold cautionRace
    split
    · exact (h.changeRace _ _).clearIntents
    all_goals exact h
  | clearCaution =>
    dsimp only [ownerOf]
    unfold clearCautionRace
    split
    · exact h.changeRace _ _
    all_goals exact h
  | halt =>
    dsimp only [ownerOf]
    unfold haltRequest
    split
    · exact h
    all_goals
      rw [accept_state]
      exact h.haltRace .halt
  | resume =>
    dsimp only [ownerOf]
    unfold resumeRace
    split
    · exact enterRun_keeps h h.validated ((h.validated true).warmRestart.changeRace _ _)
    all_goals exact h
  | setup =>
    dsimp only [ownerOf]
    unfold setupRace
    split
    · exact h.changeRace _ _
    all_goals exact h
  | railFault => exact h.takeRailFault
  | railClear =>
    dsimp only [ownerOf]
    unfold clearRail
    split
    · refine EventsMoved.raise ?_ _
      exact h.elsewhere rfl
    · exact h
  | writeSegment =>
    dsimp only [ownerOf]
    unfold writeSegment
    split
    · dsimp only
      split
      · exact mapWrite_keeps h fun _ _ => h.elsewhere rfl
      · exact mapWrite_keeps h fun _ _ => h
    · exact h
  | writeSwitch =>
    dsimp only [ownerOf]
    unfold writeSwitch
    split
    · dsimp only
      split
      · exact mapWrite_keeps h fun _ _ => h.storeSwitch _ _
      · exact mapWrite_keeps h fun _ _ => h
    · exact h
  | writeGate =>
    dsimp only [ownerOf]
    unfold writeGate
    split
    · dsimp only
      split
      · exact mapWrite_keeps h fun _ _ => h.storeGate _ _
      · exact mapWrite_keeps h fun _ _ => h
    · exact h
  | setPairingGate =>
    dsimp only [ownerOf]
    unfold setPairingGate
    split
    · exact mapWrite_keeps h fun _ _ => h.elsewhere rfl
    · exact h
  | validateMap =>
    dsimp only [ownerOf]
    unfold validateMap
    split
    · exact h
    · exact h.elsewhere rfl
  | readSegment => exact (readSegment_state body s).symm ▸ h
  | readSwitch => exact (readSwitch_state body s).symm ▸ h
  | readGate => exact (readGate_state body s).symm ▸ h
  | readCar => exact (readCar_state body s).symm ▸ h
  | readHandset => exact (readHandset_state body s).symm ▸ h
  | readNode => exact (readNode_state body s).symm ▸ h
  | readRaw =>
    dsimp only [ownerOf]
    unfold readRaw
    split
    · split
      · exact h.elsewhere rfl
      · exact h
    · exact h
  | writeProfile => exact writeProfile_keeps body h fun c r => h.storeProfile c r
  | writeCalibration => exact writeCalibration_keeps body h fun _ _ => h.elsewhere rfl
  | setScan => exact setScan_keeps body h h.applyScan
  | postSamples => exact h.takeSamples body.tail
  | bind => exact bindRequest_keeps body h fun n c => (h.leaveQueue n).makeBinding n c _
  | unbind => exact unbindRequest_keeps body h (fun n c => h.dissolve n c _) h.cancelSeek
  | lockSwitch => exact switchRequest_keeps h h.lockSwitch
  | unlockSwitch => exact switchRequest_keeps h h.unlockSwitch
  | clearSwitch => exact switchRequest_keeps h h.clearSwitch
  | fetchFrame =>
    dsimp only [ownerOf]
    unfold fetchFrame
    split
    · exact h
    · exact h.elsewhere rfl
  | setCycleTrim =>
    dsimp only [ownerOf]
    unfold setCycleTrim
    split
    · split
      · exact h
      · split
        · exact h
        · exact h.elsewhere rfl
    · exact h
  | setLimits => exact setLimits_keeps body h fun _ => h.elsewhere rfl
  | saveImage | loadImage => exact storeRequest_keeps h (h.elsewhere rfl)
  | restart =>
    dsimp only [ownerOf]
    unfold acceptRestart
    split
    · exact h
    · exact h.elsewhere rfl

/-! ### Commands -/

/-- Every command's moves: a request's owner's, an arrival's and a reset's. -/
theorem exec_eventsMoved {s t : State} (i : Instr) (e : exec i s = .next t) : EventsMoved s t := by
  have h := EventsMoved.refl s
  have port (p : Port) (f : PortState → PortState) (u : State) (k : EventsMoved s u) :
      EventsMoved s (u.modifyPort p f) := k.elsewhere rfl
  have reply (p : Port) (status : Byte) (body : List Byte) (u : State) (k : EventsMoved s u) :
      EventsMoved s (withReply p status body u) := port p _ u k
  cases i using instr_rowCases with
  | request x p =>
    rw [exec_request] at e
    exact serve_keeps e h (reply p) fun body => owner_eventsMoved p x body s
  | chipSelectFall p =>
    dsimp only [exec, execChipSelectFall] at e
    exact whenRunning_keeps e h fun _ => port p _ s h
  | chipSelectRise p =>
    exact whenRunning_keeps e h fun _ => raiseSelect_keeps h (port p)
      (fun x body => owner_eventsMoved p x body s) fun x u => eventsMoved_powerOn x s u
  | unknownRequest p => exact serveUnknown_keeps e h (reply p)
  | masterSendsByte p b =>
    exact whenRunning_keeps e h fun _ => clockPort_keeps h (port p) fun x body => owner_eventsMoved p x body s
  | resetPinAssert =>
    obtain rfl := Host.Outcome.next.inj e
    exact h.elsewhere rfl
  | powerOnReset x =>
    obtain rfl := Host.Outcome.next.inj e
    exact eventsMoved_powerOn x s s
  | intervalTimerExpiry =>
    dsimp only [exec, execIntervalTimerExpiry] at e
    refine whenRunning_keeps e h fun _ => ?_
    split
    · exact h.elsewhere rfl
    · exact h
  | roundResult ch raw pressed =>
    dsimp only [exec, execRoundResult] at e
    refine whenRunning_keeps e h fun _ => ?_
    split
    · exact h
    · split
      · refine EventsMoved.takeWiredResult ?_ _ _ _
        exact h.elsewhere rfl
      · exact h
  | holdEnd n =>
    dsimp only [exec, execHoldEnd] at e
    refine whenRunning_keeps e h fun _ => ?_
    split
    · exact h.modifyHandset n _
    · exact h
  | lostTime n =>
    dsimp only [exec, execLostTime] at e
    refine whenRunning_keeps e h fun _ => ?_
    split
    · exact (h.modifyHandset n _).raise _
    · exact h
  | holdTimerExpiry n =>
    dsimp only [exec, execHoldTimerExpiry] at e
    refine whenRunning_keeps e h fun _ => ?_
    split
    · exact (h.modifyHandset n _).seekRequest n
    · exact h
  | seekTimerExpiry n =>
    dsimp only [exec, execSeekTimerExpiry] at e
    refine whenRunning_keeps e h fun _ => ?_
    split
    · exact h
    · split
      · exact ((h.leaveQueue n).modifyHandset n _).raise _
      · exact h
  | intentExpiry c =>
    dsimp only [exec, execIntentExpiry] at e
    refine whenRunning_keeps e h fun _ => ?_
    split
    · exact h.modifyCar c _
    · exact h
  | ageExpiry c =>
    dsimp only [exec, execAgeExpiry] at e
    refine whenRunning_keeps e h fun _ => ?_
    split
    · exact h.modifyCar c _
    · exact h
  | staleExpiry j c =>
    dsimp only [exec, execStaleExpiry] at e
    refine whenRunning_keeps e h fun _ => ?_
    split
    · exact h
    · exact ((h.setList j _).raise _).returnIfEmpty j
  | deadlineExpiry j =>
    dsimp only [exec, execDeadlineExpiry] at e
    refine whenRunning_keeps e h fun _ => ?_
    split
    · exact h.enterFault j _
    · exact h
  | cycleEnd =>
    dsimp only [exec, execCycleEnd] at e
    refine whenRunning_keeps e h fun _ => ?_
    split
    · exact h.elsewhere rfl
    · exact h
  | pollSent =>
    dsimp only [exec, execPollSent] at e
    refine whenRunning_keeps e h fun _ => ?_
    split
    · exact h
    · split
      · exact h.elsewhere rfl
      · exact h
  | replyReceived r =>
    dsimp only [exec, execReplyReceived] at e
    refine whenRunning_keeps e h fun _ => ?_
    split
    · exact h
    · split
      · refine h.endExchange _ ?_
        split
        · exact h.takeMiss _
        · exact h.takeReply _ r
      · exact h
  | replyTimeout =>
    dsimp only [exec, execReplyTimeout] at e
    refine whenRunning_keeps e h fun _ => ?_
    split
    · exact h
    · split
      · exact h.endExchange _ (h.takeMiss _)
      · exact h
  | saveWriteConfirm =>
    dsimp only [exec, execSaveWriteConfirm] at e
    refine whenRunning_keeps e h fun _ => ?_
    split
    · exact h.confirmWrite _
    all_goals exact h
  | saveWriteTimeout =>
    dsimp only [exec, execSaveWriteTimeout] at e
    refine whenRunning_keeps e h fun _ => ?_
    split
    · split
      · exact h.failSave
      · exact h
    all_goals exact h
  | loadComplete =>
    dsimp only [exec, execLoadComplete] at e
    refine whenRunning_keeps e h fun _ => ?_
    split
    · exact h.completeLoad
    all_goals exact h

/-- Settles O14: every command makes moves of the event ports alone, and the queue of commands, the choices and the
passing of time make none. -/
theorem eventLawKept : Obligations.EventLawKept :=
  keptByEveryStep_of_exec (fun i _ _ h e => h.move (exec_eventsMoved i e)) (fun _ _ h => h) (fun _ _ h => h)
    fun _ h => h

end Sys2Proof.Machine
end
